-- ==== Sys2Proof/Word.lean ====
section
/-! DEFINITION. Word: the bit patterns the manual names: bytes of the bus and of the host port, cell
values (40 bits), residues and operands (32 bits), rounds and digests (16 bits), and sets of stations
written as 16-bit patterns (R44, R47). -/

namespace Sys2Proof

/-- A byte on the tally bus or on the host port (R24, R163). -/
abbrev Byte := BitVec 8

/-- A 40-bit pattern: a cell value or a watch threshold (R1, R137). -/
abbrev CellValue := BitVec 40

/-- A 32-bit pattern: a contribution's operand (R5) or a residue (R1). -/
abbrev Operand := BitVec 32

/-- A round number 0 .. 65535, wrapping (R27). -/
abbrev Round := BitVec 16

/-- The 16-bit digest (R57) or a frame's CRC (R48). -/
abbrev Digest := BitVec 16

/-- A set of station numbers 0 .. 15, one bit for each station number (R44): a view, a followed view
or the foreign-seen set. -/
abbrev StationSet := BitVec 16

end Sys2Proof
end

