-- ==== Sys2Proof/Config.lean ====
section
/-! DEFINITION. Config: what the manual leaves to the implementation, as constants without a body. -/

namespace Sys2Proof

/-- FREE VALUE (assumption 6). When the judgement of a slot that ends takes the station out of the
schedule (a loopback failure, the own FAREWELL heard back, the eighth failure at a transfer abort), the
round and slot number the Bus Interface 'last held' (R28) are those of the slot that ended, or those of
the slot that begins at the same instant (R27, R100): the manual does not say. True: the numbers of the
slot that begins. -/
opaque Config.leavingTakesNextNumbers : Bool

end Sys2Proof
end

