-- ==== Sys2Proof/Syntax.lean ====
section
/-! DEFINITION. Syntax: the commands of the station, one constructor for each row of
spec/opcode_table.json. The rows give no bits; the operands are the ones the rules of the manual need. -/

namespace Sys2Proof

/-- What RXD does from a fall on (R24). `samples` are the levels at the ten sampling points that follow:
bit 0 half a bit time after the fall (high: the fall was a glitch), bits 1 .. 8 the data bits, least
significant first, bit 9 the stop bit. `low` is how long RXD stays low after the end of a stop bit sampled
low, in sixteenths of a bit time (assumption 9); it means nothing with a high stop bit. -/
structure RxdFall where
  samples : BitVec 10
  low : Nat
  deriving DecidableEq, Repr

/-- A command: something the outside world does to the station, or an instant its own clock reaches.

A request row that has parameters carries `params`, the parameter bytes the host shifts in after the
code byte, in the order of R166. Fewer bytes than the request has means that the host has not (yet)
sent the rest: SELECT_END then discards the request (R165). -/
inductive Instr where
  /-- POWER_ON (R176): the supply comes up. -/
  | powerOn
  /-- RESETN_ASSERT (R176): the RESETn line goes low. -/
  | resetnAssert
  /-- RESETN_RELEASE (R176): the RESETn line goes high. -/
  | resetnRelease
  /-- SELECT_START (R164): CSn falls. -/
  | selectStart
  /-- SELECT_END (R165): CSn rises. -/
  | selectEnd
  /-- STATUS, code 0x01 (R171). -/
  | status
  /-- LATCH_CLEAR (R172): the last bit of the STATUS latch byte has been shifted out. -/
  | latchClear
  /-- CONFIGURE, code 0x02 (R168): station number, station count, bit rate code, slot length code and
  the eight cell-plan bytes. -/
  | configure (params : List Byte)
  /-- START, code 0x03 (R102). -/
  | start
  /-- LEAVE, code 0x04 (R112). -/
  | leave
  /-- RESET, code 0x05 (R174). -/
  | reset
  /-- POST, code 0x10 (R85): kind, cell and the four operand bytes. -/
  | post (params : List Byte)
  /-- CANCEL, code 0x11 (R87): the tag. -/
  | cancel (params : List Byte)
  /-- QUERY POST, code 0x12 (R89): the tag. -/
  | queryPost (params : List Byte)
  /-- READ CELL, code 0x20 (R173): the cell. -/
  | readCell (params : List Byte)
  /-- SET WATCH, code 0x30 (R141): cell, condition, the five threshold bytes, line. -/
  | setWatch (params : List Byte)
  /-- CLEAR WATCH, code 0x31 (R143): the entry, or 255 for all. -/
  | clearWatch (params : List Byte)
  /-- READ WATCH, code 0x32 (R144): the entry. -/
  | readWatch (params : List Byte)
  /-- TAKE EVENT, code 0x40 (R157). -/
  | takeEvent
  /-- EVENT_REMOVAL (R157): the last byte of a TAKE EVENT record has been clocked out. -/
  | eventRemoval
  /-- MALFORMED (R165): a request whose code byte is none of R166's. -/
  | malformed (code : Byte)
  /-- BUS_ACTIVITY (R24, R37): RXD falls from high to low. `gap` is the time RXD is high before the
  fall, in sixteenths of a bit time: since the end of the latest stop bit (or since RXD returned high
  after a low one) while a run is in progress, and since the previous step (or since RXD returned high
  after it) otherwise. `fall` is what RXD does from then on. -/
  | busActivity (gap : Nat) (fall : RxdFall)
  /-- RUN_END (R25): RXD has been high for more than 2 bit times after a stop bit. `gap` is that time,
  in sixteenths of a bit time; a smaller figure than the rule asks for stands for the earliest instant
  it allows. -/
  | runEnd (gap : Nat)
  /-- SLOT_END (R27): the slot timer reaches L. -/
  | slotEnd
  /-- OWN_TRANSMISSION_START (R34): offset 32 of the own slot. -/
  | ownTransmissionStart
  /-- TRANSMISSION_END (R34): the end of the last stop bit of the own frame. -/
  | transmissionEnd
  /-- LISTEN_TIMER_EXPIRY (R103): the listen timer reaches its limit. -/
  | listenTimerExpiry
  deriving DecidableEq, Repr

end Sys2Proof
end

