-- ==== Sys2Proof/Decode.lean ====
section
/-! DEFINITION. Decode: what a word or a code byte names. The rows of spec/opcode_table.json give no
bits, so no word spells a command; the host port's request codes are decoded here (R166). -/

namespace Sys2Proof

/-- The command a word spells by the bits of spec/opcode_table.json: no row has any, so none. -/
def decodeTableWord (_nbits _w : Nat) : Option Instr := none

/-- R166: the number of parameter bytes of the request a code byte names; none for a code that is not
in the table (R165, unknown code). -/
def requestParameters (code : Byte) : Option Nat :=
  match code.toNat with
  | 0x01 => some 0
  | 0x02 => some 12
  | 0x03 => some 0
  | 0x04 => some 0
  | 0x05 => some 0
  | 0x10 => some 6
  | 0x11 => some 1
  | 0x12 => some 1
  | 0x20 => some 1
  | 0x30 => some 8
  | 0x31 => some 1
  | 0x32 => some 1
  | 0x40 => some 0
  | _ => none

end Sys2Proof
end

