-- ==== Sys2Proof/Machine/State.lean ====
section
/-! DEFINITION. Machine/State: every record the manual gives the ten blocks of the station (00_scope
1.2), the state of the whole station, and its reset. Plain data throughout. Times are counted in
sixteenths of a bit time (R27, R29). -/

namespace Sys2Proof.Machine

/-! ### Cells and contributions (chapter 1) -/

/-- The mode of a cell (R1, R2). -/
inductive CellMode where
  | unsigned
  | signed
  deriving DecidableEq, Repr

/-- The overflow policy of a cell (R1, R7, R8). -/
inductive CellPolicy where
  | wrap
  | saturate
  deriving DecidableEq, Repr

/-- The three sticky flags of a cell (R9). -/
structure CellFlags where
  carry : Bool
  overflow : Bool
  diverr : Bool
  deriving DecidableEq, Repr

/-- A cell record (R1). The value and the residue are the patterns the host port and the transfer
section carry (R45, R166); the mode and the policy stand in the cell plan (R2). -/
structure Cell where
  value : CellValue
  residue : Operand
  flags : CellFlags
  version : BitVec 16
  deriving DecidableEq, Repr

/-- The initial values of R3. -/
def Cell.initial : Cell := ⟨0, 0, ⟨false, false, false⟩, 0⟩

/-- The nine contribution kinds (R11). -/
inductive ContributionKind where
  | add
  | sub
  | madd
  | msub
  | load
  | take
  | divide
  | clear
  | clearFlags
  deriving DecidableEq, Repr

/-- The outcome of a contribution (R11). -/
inductive ContributionOutcome where
  | applied
  | granted
  | refused
  deriving DecidableEq, Repr

/-- A contribution (R5). -/
structure Contribution where
  kind : ContributionKind
  cell : Fin 32
  tag : Byte
  operand : Operand
  deriving DecidableEq, Repr

/-! ### Configuration (R168) -/

/-- The configuration record. The plan holds the eight plan bytes, byte 0 lowest: cell c has its mode
in bit 2c and its policy in bit 2c + 1. -/
structure Configuration where
  station : Nat
  count : Nat
  rateCode : Nat
  slotCode : Nat
  plan : BitVec 64
  deriving DecidableEq, Repr

/-! ### Frames (chapter 3) -/

/-- A transfer section (R45): the joiner, the first index, and four cell records. -/
structure TransferSection where
  joiner : Nat
  first : Nat
  cells : Vector Cell 4
  deriving DecidableEq, Repr

/-- A sound TALLY frame (R43, R44). TRANSFER is set exactly when a transfer section is present, and
ADMIT exactly when that section's first index is 28 (R52), so the two marks are not kept apart. -/
structure TallyFrame where
  sender : Nat
  round : Round
  tag : Byte
  view : StationSet
  digest : Digest
  farewell : Bool
  contributions : List Contribution
  transfer : Option TransferSection
  deriving DecidableEq, Repr

/-- A sound JOIN frame (R43, R46): expect is none for a fresh request. -/
structure JoinFrame where
  sender : Nat
  round : Round
  tag : Byte
  expect : Option Nat
  deriving DecidableEq, Repr

/-- A decoded frame (R43). -/
inductive Frame where
  | tally (f : TallyFrame)
  | join (f : JoinFrame)
  deriving DecidableEq, Repr

/-- The seven reasons of a BAD verdict (R51). -/
inductive BadReason where
  | early
  | late
  | framing
  | length
  | crc
  | sender
  | format
  deriving DecidableEq, Repr

/-- The verdict of a slot or of a run (R30, R53): the tag match mark goes with an INTACT frame. -/
inductive Verdict where
  | silent
  | bad (reason : BadReason)
  | intact (frame : Frame) (tagMatch : Bool)
  deriving DecidableEq, Repr

/-- Frame Check (R42): the two buffers, the config tag, and the judged frame that waits for the end of
its slot (R53). -/
structure FrameCheck where
  receive : List Byte
  transmit : List Byte
  tag : Option Byte
  judged : Option Verdict
  deriving DecidableEq, Repr

/-- Frame Check without a configuration (R42). -/
def FrameCheck.reset : FrameCheck := ⟨[], [], none, none⟩

/-! ### Bus Interface (chapter 2) -/

/-- RXD (R24, R37): what it does since its latest fall that was no glitch, and the time since that fall,
in sixteenths of a bit time. Its level and the time it has been high follow from them (assumption 12).
The line belongs to the outside world, so it is kept in every state and through every reset
(assumption 7). -/
structure Rxd where
  fall : RxdFall
  age : Nat
  deriving DecidableEq, Repr

/-- An idle line: RXD is high (R24). -/
def Rxd.idle : Rxd := ⟨⟨BitVec.allOnes 10, 0⟩, 0⟩

/-- A run in progress (R25): whether it is the frame handed to Frame Check (or only followed to find
where it ends), its character count, whether a stop bit was low, and the time since its first start
bit. -/
structure Run where
  isFrame : Bool
  count : Nat
  lowStop : Bool
  age : Nat
  deriving DecidableEq, Repr

/-- How the slot in progress stands by its first start bit (R29); `inWindow` keeps the offset. -/
inductive SlotStart where
  | silent
  | early
  | late
  | inWindow (offset : Int)
  deriving DecidableEq, Repr

/-- The own frame of the slot in progress (R34): none supplied, supplied and waiting for offset 32, on
the line (DE asserted), or sent. -/
inductive TxPhase where
  | idle
  | built
  | sending
  | sent
  deriving DecidableEq, Repr

/-- The Bus Interface: synchronisation flag, slot timer (sixteenths of a bit time), slot and round
number, how the slot in progress stands by its first run (R29), whether a further run began in it and
whether a run was carried over into it (R30, R35), the run in progress (R25), the loopback capture (R35)
and the own transmission (R34). -/
structure Bus where
  sync : Bool
  slotTimer : Int
  slot : Nat
  round : Round
  start : SlotStart
  further : Bool
  carried : Bool
  run : Option Run
  loopback : List Byte
  tx : TxPhase
  deriving DecidableEq, Repr

/-- R41: the Bus Interface after any reset (a stopped timer is kept at 0). -/
def Bus.reset : Bus := ⟨false, 0, 0, 0, .silent, false, false, none, [], .idle⟩

/-! ### Agreement Unit (R57) -/

/-- The Agreement Unit's five pieces of state (R57). -/
structure Agreement where
  view : StationSet
  digest : Digest
  agree : Nat
  dissent : Nat
  foreignSeen : StationSet
  deriving DecidableEq, Repr

/-- R57: the Agreement Unit after any reset. -/
def Agreement.reset : Agreement := ⟨0, 0, 0, 0, 0⟩

/-! ### Post Queue (R81) -/

/-- The result of a SENT post (R81, R91). -/
structure PostResult where
  outcome : ContributionOutcome
  value : CellValue
  flags : CellFlags
  deriving DecidableEq, Repr

/-- The state of a post (R81): a SENT post has its frame stamp, and its result after an intact
loopback. -/
inductive PostStatus where
  | queued
  | sent (stamp : Round) (result : Option PostResult)
  deriving DecidableEq, Repr

/-- A post record (R81). -/
structure Post where
  tag : Byte
  kind : ContributionKind
  cell : Fin 32
  operand : Operand
  status : PostStatus
  deriving DecidableEq, Repr

/-- The Post Queue (R81): posts oldest first, and the next-tag counter. -/
structure PostQueue where
  posts : List Post
  nextTag : Byte
  deriving DecidableEq, Repr

/-- R97: the Post Queue after any reset. -/
def PostQueue.reset : PostQueue := ⟨[], 0⟩

/-! ### Station Controller (R99) -/

/-- The eight station states (R99). -/
inductive StationState where
  | unconfigured
  | ready
  | listen
  | joining
  | receiving
  | member
  | standby
  | halted
  deriving DecidableEq, Repr

/-- The causes of a change of state (R100). -/
inductive ChangeCause where
  | hostStart
  | hostLeave
  | founded
  | admitted
  | excluded
  | loopback
  | joinTimeout
  | transferAbort
  | failureLimit
  | resetRequest
  | configured
  | synchronised
  | transferBegun
  deriving DecidableEq, Repr

/-- The Station Controller: the six pieces of state of R99, and `leaveAtTxEnd`: a LEAVE taken while the
own JOIN is on the line waits for its last stop bit (R114). The listen timer is in sixteenths of a bit
time. -/
structure Controller where
  state : StationState
  failures : Nat
  listenTimer : Nat
  waitCount : Nat
  joinTimer : Nat
  pendingLeave : Bool
  leaveAtTxEnd : Bool
  deriving DecidableEq, Repr

/-- R99: the Station Controller after power-on and RESETn. -/
def Controller.reset : Controller := ⟨.unconfigured, 0, 0, 0, 0, false, false⟩

/-! ### Transfer Unit (R120) -/

/-- What the served joiner's slot last carried (R125). -/
inductive JoinerWord where
  | none
  | join (expect : Option Nat)
  | silent
  | bad
  | other
  deriving DecidableEq, Repr

/-- The serving record of a donor (R120). -/
structure Serving where
  joiner : Nat
  next : Nat
  word : JoinerWord
  deriving DecidableEq, Repr

/-- The receiving record of a joiner (R120); next 32 stands for complete. -/
structure Receiving where
  followed : StationSet
  next : Nat
  donor : Nat
  deriving DecidableEq, Repr

/-- The Transfer Unit (R120): no serving record stands for joiner none, no receiving record for an
empty followed view, next expected absent and donor none. -/
structure Transfer where
  joinQueue : List Nat
  serving : Option Serving
  receiving : Option Receiving
  deriving DecidableEq, Repr

/-- R120: the Transfer Unit after any reset. -/
def Transfer.reset : Transfer := ⟨[], none, none⟩

/-! ### Watch Unit (R137) -/

/-- The conditions of a watch (R137, R139). -/
inductive WatchCondition where
  | above
  | below
  | equal
  | change
  | flagged
  deriving DecidableEq, Repr

/-- A watch (R137): cell, condition, threshold pattern, indicator line (none: 255), and whether its
state is HOLDS. -/
structure Watch where
  cell : Fin 32
  condition : WatchCondition
  threshold : CellValue
  line : Option (Fin 4)
  holds : Bool
  deriving DecidableEq, Repr

/-- The Watch Unit (R137): the 16 entries and the levels of IND0 to IND3 (true: asserted, driven
high). -/
structure WatchUnit where
  entries : Vector (Option Watch) 16
  lines : Vector Bool 4
  deriving DecidableEq, Repr

/-- R151: the Watch Unit after any reset. -/
def WatchUnit.reset : WatchUnit := ⟨Vector.replicate 16 none, Vector.replicate 4 false⟩

/-! ### Event Queue (R152) -/

/-- The thirteen event kinds (R153). -/
inductive EventKind where
  | postSettled
  | postDoubtful
  | watchOn
  | watchOff
  | watchChange
  | peerJoined
  | peerLeft
  | peerDropped
  | rivalSeen
  | foreignSeen
  | stateChanged
  | joinerAbandoned
  | eventsLost
  deriving DecidableEq, Repr

/-- An event record (R152): `item` is the field tag/entry, `extra` the field flags/count. -/
structure EventRecord where
  kind : EventKind
  round : Round
  slot : Byte
  station : Byte
  cell : Byte
  item : Byte
  code : Byte
  value : CellValue
  extra : Byte
  deriving DecidableEq, Repr

/-! ### Host Port (R162) -/

/-- The result codes (R166). -/
inductive ResultCode where
  | ok
  | state
  | range
  | queueFull
  | notFound
  | inFlight
  | tableFull
  | duplicate
  | badLine
  | empty
  | malformed
  deriving DecidableEq, Repr

/-- A captured reply (R162): the result and the reply fields that follow it after OK. -/
structure Reply where
  result : ResultCode
  fields : List Byte
  deriving DecidableEq, Repr

/-- Where the select period stands (R162): idle; waiting for the code byte; gathering a known request's
parameter bytes; or shifting out a reply. The request in progress stands with the phase. `shifted`
counts the reply bytes (result byte included) known to have gone out: 0 when the request is taken, 16
after the STATUS latch byte, 15 after the last byte of an event record. -/
inductive SelectPhase where
  | idle
  | code
  | parameters (code : Byte) (received : List Byte)
  | reply (code : Byte) (params : List Byte) (answer : Reply) (shifted : Nat)
  deriving DecidableEq, Repr

/-- The three latches, or their three capture marks (R162, R170). -/
structure Latches where
  viewChanged : Bool
  excluded : Bool
  foreign : Bool
  deriving DecidableEq, Repr

/-- All latches (or marks) clear. -/
def Latches.clear : Latches := ⟨false, false, false⟩

/-- The Host Port (R162): the level of CSn (true: high), the captured summary byte (R164), the select
phase with its request and reply, reset pending, the latches and the capture marks. -/
structure HostPort where
  csn : Bool
  summary : Byte
  phase : SelectPhase
  resetPending : Bool
  latches : Latches
  marks : Latches
  deriving DecidableEq, Repr

/-- R162: the Host Port after a reset, with CSn high. -/
def HostPort.reset : HostPort := ⟨true, 0, .idle, false, .clear, .clear⟩

/-! ### The station -/

/-- The state of the station: the ten blocks, the configuration record, the level of the RESETn line
(true: high, released), the RXD line, and the commands that wait, first in, first out. -/
structure State where
  config : Option Configuration
  bus : Bus
  frameCheck : FrameCheck
  agreement : Agreement
  cells : Vector Cell 32
  posts : PostQueue
  controller : Controller
  transfer : Transfer
  watch : WatchUnit
  events : List EventRecord
  host : HostPort
  resetn : Bool
  rxd : Rxd
  pending : List Instr
  deriving DecidableEq, Repr

/-- The station right after power-on (R176): no configuration, every block at its reset values, no
event queued, CSn, RESETn and RXD high (assumption 7), no command waiting. -/
def State.reset : State where
  config := none
  bus := .reset
  frameCheck := .reset
  agreement := .reset
  cells := Vector.replicate 32 Cell.initial
  posts := .reset
  controller := .reset
  transfer := .reset
  watch := .reset
  events := []
  host := .reset
  resetn := true
  rxd := .idle
  pending := []

/-- The faults of the station: none. The manual names no condition in which the part stops; a command
that cannot arise where it is given has no effect (assumption 3). Safe: nothing raises a fault. -/
inductive Fault where
  deriving DecidableEq, Repr

/-- The refusals of the model. -/
inductive Refusal where
  /-- Raised by an arm of exec whose command has no meaning yet. No arm raises it: every row of the
  table is modelled. Safe: a refused step proves nothing about the hardware. -/
  | notModelled (mnemonic : String)
  deriving DecidableEq, Repr

/-- The answer of a step. -/
abbrev StepResult := Host.Outcome State Fault Refusal

end Sys2Proof.Machine
end

