-- ==== Sys2Proof/Machine/Operands.lean ====
section
/-! DEFINITION. Machine/Operands: the byte layouts shared by frames, requests and replies (high byte
first, 00_scope 1.7), the codes of every named value, the reading of the cell plan (R168), and the
extension of a contribution's operand by the mode of its cell (R5, R6). -/

namespace Sys2Proof.Machine

/-! ### Multi-byte numbers, high byte first -/

/-- A byte that holds a number below 256. -/
def byteOf (n : Nat) : Byte := BitVec.ofNat 8 n

/-- A byte that holds a single mark in bit 0. -/
def byteOfBool (b : Bool) : Byte := if b then 1 else 0

/-- The two bytes of a 16-bit pattern, high byte first. -/
def bytes2 (x : BitVec 16) : List Byte := [x.extractLsb' 8 8, x.extractLsb' 0 8]

/-- The four bytes of a 32-bit pattern, high byte first. -/
def bytes4 (x : BitVec 32) : List Byte :=
  [x.extractLsb' 24 8, x.extractLsb' 16 8, x.extractLsb' 8 8, x.extractLsb' 0 8]

/-- The five bytes of a 40-bit pattern, high byte first. -/
def bytes5 (x : BitVec 40) : List Byte :=
  [x.extractLsb' 32 8, x.extractLsb' 24 8, x.extractLsb' 16 8, x.extractLsb' 8 8,
    x.extractLsb' 0 8]

/-- A 16-bit pattern from its bytes, high byte first. -/
def join2 (b1 b0 : Byte) : BitVec 16 := b1 ++ b0

/-- A 32-bit pattern from its bytes, high byte first. -/
def join4 (b3 b2 b1 b0 : Byte) : BitVec 32 := b3 ++ b2 ++ b1 ++ b0

/-- A 40-bit pattern from its bytes, high byte first. -/
def join5 (b4 b3 b2 b1 b0 : Byte) : BitVec 40 := b4 ++ b3 ++ b2 ++ b1 ++ b0

/-! ### Codes -/

/-- R11: the code of a contribution kind. -/
def kindCode : ContributionKind → Nat
  | .add => 1
  | .sub => 2
  | .madd => 3
  | .msub => 4
  | .load => 5
  | .take => 6
  | .divide => 7
  | .clear => 8
  | .clearFlags => 9

/-- R11: the contribution kind a code names; none outside 1 .. 9. -/
def kindOfCode (b : Byte) : Option ContributionKind :=
  match b.toNat with
  | 1 => some .add
  | 2 => some .sub
  | 3 => some .madd
  | 4 => some .msub
  | 5 => some .load
  | 6 => some .take
  | 7 => some .divide
  | 8 => some .clear
  | 9 => some .clearFlags
  | _ => none

/-- R153: the code of an outcome in POST_SETTLED. -/
def outcomeCode : ContributionOutcome → Nat
  | .applied => 1
  | .granted => 2
  | .refused => 3

/-- R5: the cell a byte names; none above 31. -/
def cellOfByte (b : Byte) : Option (Fin 32) :=
  if h : b.toNat < 32 then some ⟨b.toNat, h⟩ else none

/-- R99: the code of a station state. -/
def stateCode : StationState → Nat
  | .unconfigured => 0
  | .ready => 1
  | .listen => 2
  | .joining => 3
  | .receiving => 4
  | .member => 5
  | .standby => 6
  | .halted => 7

/-- R100: the code of a cause. -/
def causeCode : ChangeCause → Nat
  | .hostStart => 1
  | .hostLeave => 2
  | .founded => 3
  | .admitted => 4
  | .excluded => 5
  | .loopback => 6
  | .joinTimeout => 7
  | .transferAbort => 8
  | .failureLimit => 9
  | .resetRequest => 10
  | .configured => 11
  | .synchronised => 12
  | .transferBegun => 13

/-- R153: the code of an event kind. -/
def eventKindCode : EventKind → Nat
  | .postSettled => 1
  | .postDoubtful => 2
  | .watchOn => 3
  | .watchOff => 4
  | .watchChange => 5
  | .peerJoined => 6
  | .peerLeft => 7
  | .peerDropped => 8
  | .rivalSeen => 9
  | .foreignSeen => 10
  | .stateChanged => 11
  | .joinerAbandoned => 12
  | .eventsLost => 13

/-- R51: the code of a BAD reason. -/
def badReasonCode : BadReason → Nat
  | .early => 1
  | .late => 2
  | .framing => 3
  | .length => 4
  | .crc => 5
  | .sender => 6
  | .format => 7

/-- R166: the code of a result. -/
def resultCode : ResultCode → Nat
  | .ok => 0
  | .state => 1
  | .range => 2
  | .queueFull => 3
  | .notFound => 4
  | .inFlight => 5
  | .tableFull => 6
  | .duplicate => 7
  | .badLine => 8
  | .empty => 9
  | .malformed => 10

/-- R137: the code of a watch condition. -/
def conditionCode : WatchCondition → Nat
  | .above => 1
  | .below => 2
  | .equal => 3
  | .change => 4
  | .flagged => 5

/-- R137: the condition a code names; none outside 1 .. 5. -/
def conditionOfCode (b : Byte) : Option WatchCondition :=
  match b.toNat with
  | 1 => some .above
  | 2 => some .below
  | 3 => some .equal
  | 4 => some .change
  | 5 => some .flagged
  | _ => none

/-- R137: the code of a line, 255 for none. -/
def lineCode : Option (Fin 4) → Nat
  | some l => l.val
  | none => 255

/-- R137: the line a code names; none outside 0 .. 3 and 255. -/
def lineOfCode (b : Byte) : Option (Option (Fin 4)) :=
  if h : b.toNat < 4 then some (some ⟨b.toNat, h⟩) else if b = 255 then some none else none

/-- R166: the flags byte of a cell, in replies, transfer sections and events. -/
def flagsByte (f : CellFlags) : Byte :=
  byteOf ((if f.carry then 1 else 0) + (if f.overflow then 2 else 0) + (if f.diverr then 4 else 0))

/-- R47: the flags a transfer cell's flags byte carries. -/
def flagsOfByte (b : Byte) : CellFlags := ⟨b.getLsbD 0, b.getLsbD 1, b.getLsbD 2⟩

/-- R166: the latch byte. -/
def latchByte (l : Latches) : Byte :=
  byteOf ((if l.viewChanged then 1 else 0) + (if l.excluded then 2 else 0) +
    (if l.foreign then 4 else 0))

/-! ### The cell plan (R168) -/

/-- R168: the lower bit of a cell's pair is 1 for SIGNED. -/
def Configuration.mode (c : Configuration) (i : Fin 32) : CellMode :=
  if c.plan.getLsbD (2 * i.val) then .signed else .unsigned

/-- R168: the upper bit of a cell's pair is 1 for SATURATE. -/
def Configuration.policy (c : Configuration) (i : Fin 32) : CellPolicy :=
  if c.plan.getLsbD (2 * i.val + 1) then .saturate else .wrap

/-- The eight plan bytes, byte 0 first, as they stand in the CONFIGURE request (R49). -/
def Configuration.planBytes (c : Configuration) : List Byte :=
  [c.plan.extractLsb' 0 8, c.plan.extractLsb' 8 8, c.plan.extractLsb' 16 8,
    c.plan.extractLsb' 24 8, c.plan.extractLsb' 32 8, c.plan.extractLsb' 40 8,
    c.plan.extractLsb' 48 8, c.plan.extractLsb' 56 8]

/-! ### Operands of a contribution (R5, R6) -/

/-- The number a pattern stands for in a mode: unsigned, or two's complement (R6). -/
def patternValue {w : Nat} (mode : CellMode) (x : BitVec w) : Int :=
  match mode with
  | .unsigned => x.toNat
  | .signed => x.toInt

/-- R6: the operand extended by the mode of the target cell: the amount x. -/
def amount (mode : CellMode) (operand : Operand) : Int := patternValue mode operand

/-- R5, R6: the factor a, the upper 16 bits, extended on its own. -/
def factorA (mode : CellMode) (operand : Operand) : Int :=
  patternValue mode (operand.extractLsb' 16 16)

/-- R5, R6: the factor b, the lower 16 bits, extended on its own. -/
def factorB (mode : CellMode) (operand : Operand) : Int :=
  patternValue mode (operand.extractLsb' 0 16)

end Sys2Proof.Machine
end

