-- ==== Sys2Proof/Machine/Flags.lean ====
section
/-! DEFINITION. Machine/Flags: the range rule and the three sticky flags of a cell (R7 to R9). -/

namespace Sys2Proof.Machine

/-- The least value of a cell in a mode (R1). -/
def lowest (mode : CellMode) : Int :=
  match mode with
  | .unsigned => 0
  | .signed => -2 ^ 39

/-- The greatest value of a cell in a mode (R1). -/
def highest (mode : CellMode) : Int :=
  match mode with
  | .unsigned => 2 ^ 40 - 1
  | .signed => 2 ^ 39 - 1

/-- R9: the flag the range rule sets: CARRY on an UNSIGNED cell (R7), OVERFLOW on a SIGNED one (R8). -/
def CellFlags.setRange (f : CellFlags) (mode : CellMode) : CellFlags :=
  match mode with
  | .unsigned => { f with carry := true }
  | .signed => { f with overflow := true }

/-- R7, R8: what an out-of-range true result becomes under a policy. -/
def brought (mode : CellMode) (policy : CellPolicy) (result : Int) : Int :=
  match policy with
  | .wrap => if highest mode < result then result - 2 ^ 40 else result + 2 ^ 40
  | .saturate => if highest mode < result then highest mode else lowest mode

/-- R7, R8: the range rule: the value and the flags of a cell from the true result of an operation. -/
def Cell.ranged (c : Cell) (mode : CellMode) (policy : CellPolicy) (result : Int) : Cell :=
  if lowest mode ≤ result ∧ result ≤ highest mode then
    { c with value := BitVec.ofInt 40 result }
  else
    { c with value := BitVec.ofInt 40 (brought mode policy result), flags := c.flags.setRange mode }

end Sys2Proof.Machine
end

