-- ==== Sys2Proof/Machine/Ops.lean ====
section
/-! DEFINITION. Machine/Ops: the named operations every block uses: the configuration's figures, sets
of stations, the event queue (R152 to R160), the latches (R170, R172), the view (R58), the cells, the
passing of time, and the changes of the station state (R99 to R115). -/

namespace Sys2Proof.Machine

/-! ### The configuration's figures -/

/-- The configured station number; 0 while no configuration is held (R153). -/
def State.stationNumber (s : State) : Nat :=
  match s.config with
  | some c => c.station
  | none => 0

/-- The configured station count N. -/
def State.stationCount (s : State) : Nat :=
  match s.config with
  | some c => c.count
  | none => 0

/-- R26: the slot length L = code × 64 bit times. -/
def State.slotLength (s : State) : Nat :=
  match s.config with
  | some c => c.slotCode * 64
  | none => 0

/-- R26: the bit rate of a bit rate code, in bit/s. -/
def bitRate (code : Nat) : Nat := 250000 * 2 ^ code

/-- A number of bit times, in sixteenths of a bit time (R27, R29). -/
def bits (n : Nat) : Nat := 16 * n

/-- The slot length in sixteenths of a bit time. -/
def State.slotSixteenths (s : State) : Nat := bits s.slotLength

/-- R103: the listen time, (N + 2 + station number) × L bit times, in sixteenths of a bit time. -/
def State.listenLimit (s : State) : Nat :=
  (s.stationCount + 2 + s.stationNumber) * s.slotSixteenths

/-- The mode of a cell by the installed plan (R2); without a plan, in UNCONFIGURED, no operation asks. -/
def State.cellMode (s : State) (i : Fin 32) : CellMode :=
  match s.config with
  | some c => c.mode i
  | none => .unsigned

/-- The policy of a cell by the installed plan (R2). -/
def State.cellPolicy (s : State) (i : Fin 32) : CellPolicy :=
  match s.config with
  | some c => c.policy i
  | none => .wrap

/-- The station's config tag (R49); without a configuration no frame is built or judged. -/
def State.configTag (s : State) : Byte :=
  match s.frameCheck.tag with
  | some t => t
  | none => 0

/-! ### Sets of stations -/

/-- Whether a set holds a station. -/
def stationIn (v : StationSet) (n : Nat) : Bool := v.getLsbD n

/-- The set that holds one station. -/
def stationOnly (n : Nat) : StationSet := 1#16 <<< n

/-- A set with a station added (R58). -/
def stationAdd (v : StationSet) (n : Nat) : StationSet := v ||| stationOnly n

/-- A set with a station removed (R58). -/
def stationRemove (v : StationSet) (n : Nat) : StationSet := v &&& ~~~ stationOnly n

/-- R124: whether a set holds no station below a number. -/
def noneBelow (v : StationSet) (n : Nat) : Bool :=
  (List.range n).all fun j => !stationIn v j

/-! ### The event queue -/

/-- R156: the EVENTS_LOST record that takes an event's place. -/
def EventRecord.lost (e : EventRecord) : EventRecord :=
  { kind := .eventsLost, round := e.round, slot := e.slot, station := 0, cell := 0, item := 0,
    code := 0, value := 1, extra := 1 }

/-- R156: one more lost event counted in an EVENTS_LOST record. -/
def EventRecord.fold (e : EventRecord) : EventRecord :=
  { e with
    value := if e.value = BitVec.allOnes 40 then e.value else e.value + 1
    extra := if e.extra = 255 then e.extra else e.extra + 1 }

/-- R155: the event queue after the arrival of an event. -/
def arrive (q : List EventRecord) (e : EventRecord) : List EventRecord :=
  if q.length ≤ 30 then q ++ [e]
  else
    match q.getLast? with
    | some newest =>
      if newest.kind = .eventsLost then q.dropLast ++ [newest.fold] else q ++ [e.lost]
    | none => q ++ [e]

/-- A block hands an event to the Event Queue. -/
def State.queueEvent (s : State) (e : EventRecord) : State := { s with events := arrive s.events e }

/-- An event of a kind, stamped with the round and slot the Bus Interface holds; a field the kind does
not use holds 0 (R152). -/
def State.blankEvent (s : State) (kind : EventKind) : EventRecord :=
  { kind := kind, round := s.bus.round, slot := byteOf s.bus.slot, station := 0, cell := 0,
    item := 0, code := 0, value := 0, extra := 0 }

/-- R159: ATN is asserted while the event queue is not empty. -/
def State.atn (s : State) : Bool := !s.events.isEmpty

/-! ### The latches -/

/-- R172: whether a STATUS report is on its way: taken, and its latch byte not yet shifted out. -/
def State.statusOutstanding (s : State) : Bool :=
  match s.host.phase with
  | .reply code _ _ shifted => code = 0x01 && shifted < 16
  | _ => false

/-- R58, R170: an occasion of VIEW_CHANGED. -/
def State.latchViewChanged (s : State) : State :=
  { s with host := { s.host with
      latches := { s.host.latches with viewChanged := true }
      marks := { s.host.marks with
        viewChanged := s.host.marks.viewChanged || s.statusOutstanding } } }

/-- R76, R78, R170: an occasion of EXCLUDED. -/
def State.latchExcluded (s : State) : State :=
  { s with host := { s.host with
      latches := { s.host.latches with excluded := true }
      marks := { s.host.marks with excluded := s.host.marks.excluded || s.statusOutstanding } } }

/-- R72, R170: an occasion of FOREIGN. -/
def State.latchForeign (s : State) : State :=
  { s with host := { s.host with
      latches := { s.host.latches with foreign := true }
      marks := { s.host.marks with foreign := s.host.marks.foreign || s.statusOutstanding } } }

/-! ### The view and the counts -/

/-- R58: the view becomes a set; a change of the view sets VIEW_CHANGED, and only a change does. -/
def State.setView (s : State) (v : StationSet) : State :=
  if v = s.agreement.view then s
  else { s with agreement := { s.agreement with view := v } }.latchViewChanged

/-- Both counts return to 0 (R74). -/
def State.clearCounts (s : State) : State :=
  { s with agreement := { s.agreement with agree := 0, dissent := 0 } }

/-- The agreement count increases by 1 (R63). -/
def State.countAgree (s : State) : State :=
  { s with agreement := { s.agreement with agree := s.agreement.agree + 1 } }

/-- The dissent count increases by 1 (R66, R67, R70). -/
def State.countDissent (s : State) : State :=
  { s with agreement := { s.agreement with dissent := s.agreement.dissent + 1 } }

/-- R72: the foreign-seen handling of a foreign frame with a tag from a station. -/
def State.foreignHeard (s : State) (station : Nat) (tag : Byte) : State :=
  let s := s.latchForeign
  if stationIn s.agreement.foreignSeen station then s
  else
    { s.queueEvent { s.blankEvent .foreignSeen with station := byteOf station, item := tag } with
      agreement := { s.agreement with
        foreignSeen := stationAdd s.agreement.foreignSeen station } }

/-! ### The cells -/

/-- R22: a read claim on the Cell Store. -/
def State.cell (s : State) (i : Fin 32) : Cell := s.cells[i]

/-- A cell record replaced whole. -/
def State.setCell (s : State) (i : Fin 32) (c : Cell) : State := { s with cells := s.cells.set i c }

/-! ### The Bus Interface and the timers -/

/-- R26: the states in which the Bus Interface receives. -/
def StationState.active (st : StationState) : Bool :=
  match st with
  | .listen => true
  | .joining => true
  | .receiving => true
  | .member => true
  | .unconfigured => false
  | .ready => false
  | .standby => false
  | .halted => false

/-- R117: the replica is stale in every state but MEMBER. -/
def State.stale (s : State) : Bool := s.controller.state ≠ .member

/-- R34: DE is asserted while the own frame is on the line. -/
def State.de (s : State) : Bool := s.bus.tx = .sending

/-- R28, R39, R40: the slot and the run in progress are abandoned and the sync flag is cleared; slot and
round number keep their last values. Both buffers of Frame Check are emptied (R42, R114). -/
def State.stopBus (s : State) : State :=
  { s with
    bus := { Bus.reset with slot := s.bus.slot, round := s.bus.round }
    frameCheck := { s.frameCheck with receive := [], transmit := [], judged := none } }

/-- The listen timer, the wait count and the join timer at 0 (R103, R108, R112, R116). -/
def State.stopTimers (s : State) : State :=
  { s with controller := { s.controller with listenTimer := 0, waitCount := 0, joinTimer := 0 } }

/-- R32: the slot timer is decreased by d = s − 32, s the offset of the slot's first start bit. -/
def State.correctTimer (s : State) : State :=
  match s.bus.start with
  | .inWindow offset =>
    { s with bus := { s.bus with slotTimer := s.bus.slotTimer - (offset - bits 32) } }
  | .silent => s
  | .early => s
  | .late => s

/-- R42, R54, R55: Frame Check's transmit buffer takes the built frame, and the Bus Interface sends it
at offset 32 (R34); the loopback capture starts empty (R35). -/
def State.loadFrame (s : State) (bytes : List Byte) : State :=
  { s with
    frameCheck := { s.frameCheck with transmit := bytes }
    bus := { s.bus with tx := .built, loopback := [] } }

/-! ### Changes of the station state -/

/-- R100: the station state becomes a state, and STATE_CHANGED is queued with the cause and the failure
count. -/
def State.changeState (s : State) (new : StationState) (cause : ChangeCause) : State :=
  let s := { s with controller := { s.controller with state := new } }
  s.queueEvent { s.blankEvent .stateChanged with
    station := byteOf s.stationNumber
    item := byteOf (causeCode cause)
    code := byteOf (stateCode new)
    extra := byteOf s.controller.failures }

/-- Entry into LISTEN (R28, R102, R103, R108, R110): schedule abandoned, timers at 0. -/
def State.enterListen (s : State) (cause : ChangeCause) : State :=
  s.stopBus.stopTimers.changeState .listen cause

/-- Entry into STANDBY (R112, R113): the bus passive, timers at 0, pending-leave clear, the records of
the Transfer Unit emptied (R121, R124, R135). -/
def State.enterStandby (s : State) : State :=
  let s := s.stopBus.stopTimers
  let s := { s with
    controller := { s.controller with pendingLeave := false, leaveAtTxEnd := false }
    transfer := .reset }
  s.changeState .standby .hostLeave

/-- Entry into HALTED (R113, R115): the bus passive, timers at 0, pending-leave clear. -/
def State.enterHalted (s : State) : State :=
  let s := s.stopBus.stopTimers
  let s := { s with
    controller := { s.controller with pendingLeave := false, leaveAtTxEnd := false } }
  s.changeState .halted .failureLimit

/-- R115: the failure count increases by 1. -/
def State.countFailure (s : State) : State :=
  { s with controller := { s.controller with failures := s.controller.failures + 1 } }

/-- R115: a failure that leads to LISTEN, or to HALTED when it brings the count to 8. -/
def State.failToListen (s : State) (cause : ChangeCause) : State :=
  let s := s.countFailure
  if 8 ≤ s.controller.failures then s.enterHalted else s.enterListen cause

/-- R111, R115: a failure that leads from RECEIVING to JOINING with the join timer at 0, or to HALTED
when it brings the count to 8. -/
def State.failToJoining (s : State) (cause : ChangeCause) : State :=
  let s := s.countFailure
  if 8 ≤ s.controller.failures then s.enterHalted
  else
    { s with controller := { s.controller with joinTimer := 0 } }.changeState .joining cause

/-- R113: a pending leave is honoured at once in LISTEN. -/
def State.honourLeave (s : State) : State :=
  if s.controller.state = .listen ∧ s.controller.pendingLeave then s.enterStandby else s

end Sys2Proof.Machine
end

