-- ==== Sys2Proof/Machine/Frames.lean ====
section
/-! DEFINITION. Machine/Frames: the CRC (R48), the config tag (R49), the byte layouts of the frames
(R47), the checks of Frame Check (R50 to R52) and the building of frames (R54, R55). -/

namespace Sys2Proof.Machine

/-! ### CRC, digest and config tag -/

/-- R48: one bit taken into the register. -/
def crcBit (register : BitVec 16) (bit : Bool) : BitVec 16 :=
  let shifted := register <<< 1
  if (bit ^^ register.getLsbD 15) then shifted ^^^ 0x1021 else shifted

/-- R48: one byte taken into the register, from its bit 7 to its bit 0. -/
def crcByte (register : BitVec 16) (b : Byte) : BitVec 16 :=
  [7, 6, 5, 4, 3, 2, 1, 0].foldl (fun r i => crcBit r (b.getLsbD i)) register

/-- R48, R59: the register after bytes, from a starting value. -/
def crcFrom (register : BitVec 16) (bytes : List Byte) : BitVec 16 := bytes.foldl crcByte register

/-- R48: the frame CRC of the bytes before it. -/
def frameCrc (bytes : List Byte) : BitVec 16 := crcFrom 0xFFFF bytes

/-- R49: the config tag. -/
def configTagOf (c : Configuration) : Byte :=
  (frameCrc ([byteOf c.count, byteOf c.rateCode, byteOf c.slotCode] ++ c.planBytes)).extractLsb' 0 8

/-- R59: the digest advanced over a contribution of an origin station. -/
def advanceDigest (digest : Digest) (origin : Nat) (c : Contribution) : Digest :=
  crcFrom digest ([byteOf origin, byteOf (kindCode c.kind), byteOf c.cell.val, c.tag] ++
    bytes4 c.operand)

/-! ### The frame layouts (R47) -/

/-- R43, R47: the first byte of a TALLY frame. -/
def tallyFirst (sender : Nat) : Byte := 0xA0#8 ||| byteOf sender

/-- R43, R47: the first byte of a JOIN frame. -/
def joinFirst (sender : Nat) : Byte := 0x60#8 ||| byteOf sender

/-- R43: the sender in a frame's first byte. -/
def senderOf (first : Byte) : Nat := (first.extractLsb' 0 4).toNat

/-- R44, R52: ADMIT is set exactly beside a transfer section whose first index is 28. -/
def TallyFrame.admits (f : TallyFrame) : Bool :=
  match f.transfer with
  | some t => t.first = 28
  | none => false

/-- R47: the flags byte of a TALLY frame. -/
def TallyFrame.flagsByte (f : TallyFrame) : Byte :=
  byteOf ((if f.farewell then 128 else 0) + (if f.transfer.isSome then 64 else 0) +
    (if f.admits then 32 else 0) + f.contributions.length)

/-- R47: the seven bytes of a contribution record. -/
def contributionBytes (c : Contribution) : List Byte :=
  [byteOf (kindCode c.kind), byteOf c.cell.val, c.tag] ++ bytes4 c.operand

/-- R47: the thirteen bytes of a transfer cell. -/
def cellBytes (index : Nat) (c : Cell) : List Byte :=
  [byteOf index] ++ bytes5 c.value ++ bytes4 c.residue ++ [Machine.flagsByte c.flags] ++
    bytes2 c.version

/-- R47: the 54 bytes of a transfer section. -/
def transferBytes (t : TransferSection) : List Byte :=
  [byteOf t.joiner, byteOf t.first] ++ cellBytes t.first t.cells[0] ++
    cellBytes (t.first + 1) t.cells[1] ++ cellBytes (t.first + 2) t.cells[2] ++
    cellBytes (t.first + 3) t.cells[3]

/-- R47: the bytes of a TALLY frame before its CRC. -/
def TallyFrame.body (f : TallyFrame) : List Byte :=
  [tallyFirst f.sender] ++ bytes2 f.round ++ [f.tag] ++ bytes2 f.view ++ bytes2 f.digest ++
    [f.flagsByte] ++ f.contributions.flatMap contributionBytes ++
    (match f.transfer with
      | some t => transferBytes t
      | none => [])

/-- R46, R47: the expect byte of a JOIN frame, 255 for absent. -/
def expectByte (expect : Option Nat) : Byte :=
  match expect with
  | some e => byteOf e
  | none => 255

/-- R47: the bytes of a JOIN frame before its CRC. -/
def JoinFrame.body (f : JoinFrame) : List Byte :=
  [joinFirst f.sender] ++ bytes2 f.round ++ [f.tag] ++ [expectByte f.expect]

/-- R48: a frame's bytes with the CRC behind them, high byte first. -/
def withCrc (body : List Byte) : List Byte := body ++ bytes2 (frameCrc body)

/-- R54, R55: the whole frame as it is sent. -/
def Frame.bytes (f : Frame) : List Byte :=
  match f with
  | .tally t => withCrc t.body
  | .join j => withCrc j.body

/-! ### Reading a frame (R47, R52) -/

/-- R47, R52: contribution records read from the head of a list, and the bytes behind them; none when a
kind or a cell is out of range. -/
def readContributions : Nat → List Byte → Option (List Contribution × List Byte)
  | 0, bytes => some ([], bytes)
  | n + 1, k :: c :: t :: o3 :: o2 :: o1 :: o0 :: rest =>
    match kindOfCode k, cellOfByte c, readContributions n rest with
    | some kind, some cell, some (more, behind) =>
      some (⟨kind, cell, t, join4 o3 o2 o1 o0⟩ :: more, behind)
    | _, _, _ => none
  | _ + 1, _ => none

/-- R47, R52: one transfer cell with the index it must carry, and the bytes behind it. -/
def readTransferCell (index : Nat) (bytes : List Byte) : Option (Cell × List Byte) :=
  match bytes with
  | i :: v4 :: v3 :: v2 :: v1 :: v0 :: r3 :: r2 :: r1 :: r0 :: f :: n1 :: n0 :: rest =>
    if i.toNat = index ∧ f.extractLsb' 3 5 = 0 then
      some (⟨join5 v4 v3 v2 v1 v0, join4 r3 r2 r1 r0, flagsOfByte f, join2 n1 n0⟩, rest)
    else none
  | _ => none

/-- R45, R52: the four transfer cells of a first index. -/
def readTransferCells (first : Nat) (bytes : List Byte) : Option (Vector Cell 4) :=
  match readTransferCell first bytes with
  | none => none
  | some (c0, rest) =>
    match readTransferCell (first + 1) rest with
    | none => none
    | some (c1, rest) =>
      match readTransferCell (first + 2) rest with
      | none => none
      | some (c2, rest) =>
        match readTransferCell (first + 3) rest with
        | none => none
        | some (c3, _) => some #v[c0, c1, c2, c3]

/-- R45, R52: a transfer section in a frame of a sender, with or without ADMIT. -/
def readTransfer (sender : Nat) (admitted : Bool) (bytes : List Byte) : Option TransferSection :=
  match bytes with
  | j :: i :: rest =>
    if j.toNat ≤ 15 ∧ j.toNat ≠ sender ∧ i.toNat % 4 = 0 ∧ i.toNat ≤ 28 ∧
        (admitted ↔ i.toNat = 28) then
      match readTransferCells i.toNat rest with
      | some cells => some ⟨j.toNat, i.toNat, cells⟩
      | none => none
    else none
  | _ => none

/-- R47, R52: the legal fields of a TALLY frame; none when the frame is malformed. -/
def readTally (bytes : List Byte) : Option TallyFrame :=
  match bytes with
  | b :: r1 :: r0 :: tag :: v1 :: v0 :: d1 :: d0 :: flags :: rest =>
    let sender := senderOf b
    let farewell := flags.getLsbD 7
    let transfer := flags.getLsbD 6
    let admitted := flags.getLsbD 5
    let count := (flags.extractLsb' 0 3).toNat
    if flags.extractLsb' 3 2 ≠ 0 ∨ 4 < count ∨ (farewell ∧ (0 < count ∨ transfer)) ∨
        (admitted ∧ ¬ transfer) then none
    else
      match readContributions count rest with
      | none => none
      | some (contributions, behind) =>
        if transfer then
          match readTransfer sender admitted behind with
          | none => none
          | some t =>
            some ⟨sender, join2 r1 r0, tag, join2 v1 v0, join2 d1 d0, farewell, contributions,
              some t⟩
        else
          some ⟨sender, join2 r1 r0, tag, join2 v1 v0, join2 d1 d0, farewell, contributions, none⟩
  | _ => none

/-- R46, R52: the legal fields of a JOIN frame; none when the frame is malformed. -/
def readJoin (bytes : List Byte) : Option JoinFrame :=
  match bytes with
  | b :: r1 :: r0 :: tag :: e :: _ =>
    if e = 255 then some ⟨senderOf b, join2 r1 r0, tag, none⟩
    else if e.toNat % 4 = 0 ∧ e.toNat ≤ 28 then
      some ⟨senderOf b, join2 r1 r0, tag, some e.toNat⟩
    else none
  | _ => none

/-- R52: the legal fields of a frame by its kind. -/
def readFrame (bytes : List Byte) : Option Frame :=
  match bytes with
  | [] => none
  | b :: _ =>
    if b.extractLsb' 4 4 = 0xA#4 then (readTally bytes).map .tally
    else if b.extractLsb' 4 4 = 0x6#4 then (readJoin bytes).map .join
    else none

/-! ### Judging a run (R50, R51) -/

/-- R50: the declared length of a frame whose first byte names TALLY or JOIN, in a run of `length`
characters; none when the run ended before the bytes that declare it. -/
def declaredLength (bytes : List Byte) (length : Nat) : Option Nat :=
  if (bytes.getD 0 0).extractLsb' 4 4 = 0x6#4 then some 7
  else if length < 9 then none
  else
    let flags := bytes.getD 8 0
    some ((if flags.getLsbD 6 then 65 else 11) + 7 * (flags.extractLsb' 0 3).toNat)

/-- R51, check 2: the upper four bits of the first byte name TALLY or JOIN. -/
def namesKind (bytes : List Byte) : Bool :=
  let upper := (bytes.getD 0 0).extractLsb' 4 4
  upper = 0xA#4 || upper = 0x6#4

/-- R51, check 3: the run reached the bytes that declare the length, and the declared length. -/
def reachesLength (bytes : List Byte) (length : Nat) : Bool :=
  match declaredLength bytes length with
  | some declared => declared ≤ length
  | none => false

/-- R51, check 4: the run is no longer than its declared length, and no longer than 93 characters. -/
def withinLength (bytes : List Byte) (length : Nat) : Bool :=
  match declaredLength bytes length with
  | some declared => length ≤ declared && length ≤ 93
  | none => false

/-- R48, R51, check 5: the CRC of all the bytes before the last two equals those two. -/
def crcMatches (bytes : List Byte) : Bool :=
  bytes2 (frameCrc (bytes.take (bytes.length - 2))) = bytes.drop (bytes.length - 2)

/-- R51, check 6: the sender owns the slot in which the run began; without slots, a frame with the
station's own config tag and a sender of N or more fails. -/
def senderFits (owner : Option Nat) (count : Nat) (tag : Byte) (bytes : List Byte) : Bool :=
  let sender := senderOf (bytes.getD 0 0)
  match owner with
  | some slot => sender = slot
  | none => !(bytes.getD 3 0 = tag && count ≤ sender)

/-- The config tag a decoded frame carries (R43). -/
def Frame.tag (f : Frame) : Byte :=
  match f with
  | .tally t => t.tag
  | .join j => j.tag

/-- The sender a decoded frame names (R43). -/
def Frame.sender (f : Frame) : Nat :=
  match f with
  | .tally t => t.sender
  | .join j => j.sender

/-- The round a decoded frame carries (R43). -/
def Frame.round (f : Frame) : Round :=
  match f with
  | .tally t => t.round
  | .join j => j.round

/-- R51, R53: the judgement of a run of `length` characters whose first 93 stand in the buffer: the
first check that fails gives the reason. `owner` is the slot in which the run began (none without
slots), `count` and `tag` are the station's N and config tag. DESIGN CHOICE (assumption 29): the checks
and their order are R51's for every run, so also for a frame cut off by its sender's reset, whose unsent
bits read 1 and which R38 and R98 call BAD(FRAMING): cut within its first character so that no kind is
named it is BAD(FORMAT); cut within its last it has its whole length and is BAD(CRC), or INTACT where
those bits were 1 in any case. -/
def judgeRun (owner : Option Nat) (count : Nat) (tag : Byte) (length : Nat) (lowStop : Bool)
    (bytes : List Byte) : Verdict :=
  if lowStop then .bad .framing
  else if !namesKind bytes then .bad .format
  else if !reachesLength bytes length then .bad .framing
  else if !withinLength bytes length then .bad .length
  else if !crcMatches bytes then .bad .crc
  else if !senderFits owner count tag bytes then .bad .sender
  else
    match readFrame bytes with
    | some f => .intact f (f.tag = tag)
    | none => .bad .format

/-! ### Building the own frame (R54, R55) -/

/-- R43, R54: the JOIN frame of the station, with an expect value or a fresh request. -/
def State.joinFrame (s : State) (expect : Option Nat) : Frame :=
  .join ⟨s.stationNumber, s.bus.round, s.configTag, expect⟩

/-- R55: the station's FAREWELL frame. -/
def State.farewellFrame (s : State) : Frame :=
  .tally ⟨s.stationNumber, s.bus.round, s.configTag, s.agreement.view, s.agreement.digest, true, [],
    none⟩

/-- R54: the station's TALLY frame with a contribution list and a transfer section. -/
def State.tallyFrame (s : State) (contributions : List Contribution)
    (transfer : Option TransferSection) : Frame :=
  .tally ⟨s.stationNumber, s.bus.round, s.configTag, s.agreement.view, s.agreement.digest, false,
    contributions, transfer⟩

/-- R35, R56: the loopback is intact when the own slot's frame is INTACT, the captured characters are
those of the transmit buffer, one by one and in number, and no run was carried over from the slot before
(assumption 28, where that run was over before the own start bit). The judged frame then carries exactly
what was built: the frame of the transmit buffer. -/
def State.loopbackIntact (s : State) (v : Verdict) : Option Frame :=
  match v with
  | .intact _ _ =>
    if s.bus.loopback = s.frameCheck.transmit ∧ s.bus.carried = false then
      readFrame s.frameCheck.transmit
    else none
  | .bad _ => none
  | .silent => none

end Sys2Proof.Machine
end

