-- ==== Sys2Proof/Machine/Cells.lean ====
section
/-! DEFINITION. Machine/Cells: the arithmetic of the nine contribution kinds (R12 to R20), what a cell
holds after a contribution (R10, R21), and the installation of a transferred cell (R23). -/

namespace Sys2Proof.Machine

/-- R10: the version counts every contribution, wrapping from 65535 to 0. -/
def Cell.counted (c : Cell) : Cell := { c with version := c.version + 1 }

/-- R15: TAKE of an amount x. -/
def Cell.takeAmount (c : Cell) (mode : CellMode) (policy : CellPolicy) (x : Int) :
    Cell × ContributionOutcome :=
  let v := patternValue mode c.value
  if x ≤ v then (c.ranged mode policy (v - x), .granted) else (c, .refused)

/-- R16, R17, R18: DIVIDE by x. On a SIGNED cell the quotient is truncated toward zero, which on an
UNSIGNED cell is the largest whole quotient. -/
def Cell.divideBy (c : Cell) (mode : CellMode) (policy : CellPolicy) (x : Int) :
    Cell × ContributionOutcome :=
  let v := patternValue mode c.value
  if x = 0 then ({ c with flags := { c.flags with diverr := true } }, .refused)
  else if mode = .signed ∧ v = lowest .signed ∧ x = -1 then
    ({ c.ranged mode policy (2 ^ 39) with residue := 0 }, .applied)
  else
    ({ c with
        value := BitVec.ofInt 40 (v.tdiv x)
        residue := BitVec.ofInt 32 (v - v.tdiv x * x) }, .applied)

/-- R12 to R20: a contribution's kind carried out on a cell record, the version aside. -/
def Cell.carryOut (c : Cell) (mode : CellMode) (policy : CellPolicy) (kind : ContributionKind)
    (operand : Operand) : Cell × ContributionOutcome :=
  let v := patternValue mode c.value
  let x := amount mode operand
  let product := factorA mode operand * factorB mode operand
  match kind with
  | .add => (c.ranged mode policy (v + x), .applied)
  | .sub => (c.ranged mode policy (v - x), .applied)
  | .madd => (c.ranged mode policy (v + product), .applied)
  | .msub => (c.ranged mode policy (v - product), .applied)
  | .load => ({ c with value := BitVec.ofInt 40 x }, .applied)
  | .take => c.takeAmount mode policy x
  | .divide => c.divideBy mode policy x
  | .clear => ({ c with value := 0, residue := 0, flags := ⟨false, false, false⟩ }, .applied)
  | .clearFlags => ({ c with flags := ⟨false, false, false⟩ }, .applied)

/-- R10, R21: the cell record just after a contribution, and the outcome. -/
def Cell.contribute (c : Cell) (mode : CellMode) (policy : CellPolicy) (kind : ContributionKind)
    (operand : Operand) : Cell × ContributionOutcome :=
  let done := c.carryOut mode policy kind operand
  (done.1.counted, done.2)

/-- R23, R45: the four cells of a transfer section are installed at the first index and the three
indices after it. -/
def State.installCells (s : State) (t : TransferSection) : State :=
  (((s.setCell (Fin.ofNat 32 t.first) t.cells[0]).setCell (Fin.ofNat 32 (t.first + 1))
    t.cells[1]).setCell (Fin.ofNat 32 (t.first + 2)) t.cells[2]).setCell
      (Fin.ofNat 32 (t.first + 3)) t.cells[3]

/-- R45, R54: the four cell records at a first index, as they stand. -/
def State.cellsAt (s : State) (first : Nat) : Vector Cell 4 :=
  #v[s.cell (Fin.ofNat 32 first), s.cell (Fin.ofNat 32 (first + 1)),
    s.cell (Fin.ofNat 32 (first + 2)), s.cell (Fin.ofNat 32 (first + 3))]

/-- R2, R3: every cell takes its initial values. -/
def State.clearCells (s : State) : State := { s with cells := Vector.replicate 32 Cell.initial }

end Sys2Proof.Machine
end

