-- ==== Sys2Proof/Machine/Watches.lean ====
section
/-! DEFINITION. Machine/Watches: the watch table and the indicator lines (chapter 8), and the applying
of a contribution to a cell with the watches it reaches (R21, R145 to R148). -/

namespace Sys2Proof.Machine

/-- The sixteen entries in order of index. -/
def watchEntries : List (Fin 16) := [0, 1, 2, 3, 4, 5, 6, 7, 8, 9, 10, 11, 12, 13, 14, 15]

/-- R139: whether a condition holds of a cell record, in the cell's mode. -/
def conditionHolds (mode : CellMode) (condition : WatchCondition) (threshold : CellValue)
    (c : Cell) : Bool :=
  match condition with
  | .above => patternValue mode threshold < patternValue mode c.value
  | .below => patternValue mode c.value < patternValue mode threshold
  | .equal => c.value = threshold
  | .flagged => c.flags.carry || c.flags.overflow || c.flags.diverr
  | .change => false

/-- R139: the test of a watch against the replica. -/
def State.testWatch (s : State) (w : Watch) : Bool :=
  conditionHolds (s.cellMode w.cell) w.condition w.threshold (s.cell w.cell)

/-- Whether an entry is a watch on a line in state HOLDS. -/
def entryDrives (line : Fin 4) (entry : Option Watch) : Bool :=
  match entry with
  | some w => w.line = some line && w.holds
  | none => false

/-- R140: the level of a line: asserted when some entry assigned to it HOLDS. -/
def lineLevel (entries : Vector (Option Watch) 16) (line : Fin 4) : Bool :=
  watchEntries.any fun i => entryDrives line entries[i]

/-- R140: the four lines recomputed from the entries. -/
def WatchUnit.ofEntries (entries : Vector (Option Watch) 16) : WatchUnit :=
  ⟨entries, #v[lineLevel entries 0, lineLevel entries 1, lineLevel entries 2, lineLevel entries 3]⟩

/-- An entry replaced, and the lines recomputed (R140). -/
def State.setEntry (s : State) (i : Fin 16) (entry : Option Watch) : State :=
  { s with watch := .ofEntries (s.watch.entries.set i entry) }

/-- R142, R145, R149: WATCH_ON or WATCH_OFF, naming the entry and the cell and carrying the cell's
value and flags. -/
def State.watchEvent (s : State) (kind : EventKind) (i : Fin 16) (cell : Fin 32) : EventRecord :=
  { s.blankEvent kind with
    cell := byteOf cell.val
    item := byteOf i.val
    value := (s.cell cell).value
    extra := flagsByte (s.cell cell).flags }

/-- R145, R149: a level entry is tested; when the test differs from the stored state, the state changes,
WATCH_ON or WATCH_OFF is queued and the lines are recomputed. -/
def State.retestWatch (s : State) (i : Fin 16) (w : Watch) : State :=
  let now := s.testWatch w
  if now = w.holds then s
  else
    (s.setEntry i (some { w with holds := now })).queueEvent
      (s.watchEvent (if now then .watchOn else .watchOff) i w.cell)

/-- R145, R146: one entry's part in the evaluation of a contribution to a cell by an origin station. -/
def State.evaluateEntry (cell : Fin 32) (kind : ContributionKind) (origin : Nat) (s : State)
    (i : Fin 16) : State :=
  match s.watch.entries[i] with
  | none => s
  | some w =>
    if w.cell ≠ cell then s
    else if w.condition = .change then
      s.queueEvent { s.blankEvent .watchChange with
        station := byteOf origin
        cell := byteOf cell.val
        item := byteOf i.val
        code := byteOf (kindCode kind)
        value := (s.cell cell).value }
    else s.retestWatch i w

/-- R145 to R148: the Watch Unit is told of a contribution: it evaluates the entries in order of index
in MEMBER, and does nothing in any other state. -/
def State.evaluateWatches (s : State) (cell : Fin 32) (kind : ContributionKind) (origin : Nat) :
    State :=
  if s.controller.state = .member then
    watchEntries.foldl (State.evaluateEntry cell kind origin) s
  else s

/-- R149: one entry's part in a re-evaluation. -/
def State.reevaluateEntry (s : State) (i : Fin 16) : State :=
  match s.watch.entries[i] with
  | none => s
  | some w => if w.condition = .change then s else s.retestWatch i w

/-- R149: the re-evaluation of the table at founding and at admission. -/
def State.reevaluateWatches (s : State) : State := watchEntries.foldl State.reevaluateEntry s

/-- R21: the Cell Store carries out a contribution on its cell and tells the Watch Unit, with the
frame's sender as origin station. -/
def State.applyToCell (s : State) (origin : Nat) (c : Contribution) : State :=
  let after := ((s.cell c.cell).contribute (s.cellMode c.cell) (s.cellPolicy c.cell) c.kind
    c.operand).1
  (s.setCell c.cell after).evaluateWatches c.cell c.kind origin

/-- R21: what the Cell Store hands back for a contribution: the outcome, and the value and flags just
after it. -/
def State.resultOf (s : State) (c : Contribution) : PostResult :=
  let done := (s.cell c.cell).contribute (s.cellMode c.cell) (s.cellPolicy c.cell) c.kind c.operand
  { outcome := done.2, value := done.1.value, flags := done.1.flags }

/-- R141: whether an entry names the cell and condition and, for ABOVE, BELOW and EQUAL, the threshold
of a request. -/
def sameWatch (cell : Fin 32) (condition : WatchCondition) (threshold : CellValue)
    (entry : Option Watch) : Bool :=
  match entry with
  | some w => w.cell = cell && w.condition = condition && w.threshold = threshold
  | none => false

/-- R141: the threshold an entry stores: 0 for CHANGE and FLAGGED. -/
def storedThreshold (condition : WatchCondition) (threshold : CellValue) : CellValue :=
  match condition with
  | .above => threshold
  | .below => threshold
  | .equal => threshold
  | .change => 0
  | .flagged => 0

end Sys2Proof.Machine
end

