-- ==== Sys2Proof/Machine/Posts.lean ====
section
/-! DEFINITION. Machine/Posts: the post queue: tags (R84), packing (R90), results (R91), settlement
(R92) and doubt (R93). -/

namespace Sys2Proof.Machine

/-- Whether a post is QUEUED (R81). -/
def Post.queued (p : Post) : Bool :=
  match p.status with
  | .queued => true
  | .sent _ _ => false

/-- R84: the first of `fuel` tags, counting up from `tag` and wrapping, that no post of the queue
holds. Sixteen suffice for a queue of at most fifteen. -/
def freeTag (posts : List Post) : Nat → Byte → Byte
  | 0, tag => tag
  | fuel + 1, tag =>
    if posts.any (fun p => p.tag = tag) then freeTag posts fuel (tag + 1) else tag

/-- R85: an accepted POST appended, QUEUED, with its tag; the counter becomes the tag plus 1. -/
def State.appendPost (s : State) (kind : ContributionKind) (cell : Fin 32) (operand : Operand) :
    State :=
  let tag := freeTag s.posts.posts 16 s.posts.nextTag
  { s with posts := ⟨s.posts.posts ++ [⟨tag, kind, cell, operand, .queued⟩], tag + 1⟩ }

/-- The SENT posts, oldest first. -/
def PostQueue.sentPosts (q : PostQueue) : List Post := q.posts.filter fun p => !p.queued

/-- The QUEUED posts, oldest first. -/
def PostQueue.queuedPosts (q : PostQueue) : List Post := q.posts.filter Post.queued

/-- Every SENT post leaves the queue (R92, R93). -/
def State.dropSent (s : State) : State :=
  { s with posts := { s.posts with posts := s.posts.queuedPosts } }

/-- R92, R153: the POST_SETTLED event of a post. A SENT post reaches settlement with its result
stored (R92); a post without one, which no run reaches, leaves the three fields at 0 (assumption 8). -/
def State.settledEvent (s : State) (p : Post) : EventRecord :=
  let named := { s.blankEvent .postSettled with
    station := byteOf s.stationNumber
    cell := byteOf p.cell.val
    item := p.tag }
  match p.status with
  | .sent _ (some r) =>
    { named with
      code := byteOf (outcomeCode r.outcome), value := r.value, extra := flagsByte r.flags }
  | .sent _ none => named
  | .queued => named

/-- R93, R153: the POST_DOUBTFUL event of a post. -/
def State.doubtfulEvent (s : State) (p : Post) : EventRecord :=
  { s.blankEvent .postDoubtful with
    station := byteOf s.stationNumber
    cell := byteOf p.cell.val
    item := p.tag }

/-- R92: settlement: every SENT post leaves the queue, oldest first, with its POST_SETTLED event. -/
def State.settlePosts (s : State) : State :=
  let events := s.posts.sentPosts.map s.settledEvent
  events.foldl State.queueEvent s.dropSent

/-- R93: doubt: every SENT post leaves the queue, oldest first, with its POST_DOUBTFUL event. -/
def State.doubtPosts (s : State) : State :=
  let events := s.posts.sentPosts.map s.doubtfulEvent
  events.foldl State.queueEvent s.dropSent

/-- R90: the `n` oldest QUEUED posts become SENT with a frame stamp. -/
def packPosts (stamp : Round) : Nat → List Post → List Post
  | 0, posts => posts
  | _ + 1, [] => []
  | n + 1, p :: rest =>
    if p.queued then { p with status := .sent stamp none } :: packPosts stamp n rest
    else p :: packPosts stamp (n + 1) rest

/-- R90: the contribution record a post supplies to the frame. -/
def Post.contribution (p : Post) : Contribution := ⟨p.kind, p.cell, p.tag, p.operand⟩

/-- R90: the contribution list of the next frame: up to four of the oldest QUEUED posts. -/
def State.packedContributions (s : State) : List Contribution :=
  (s.posts.queuedPosts.take 4).map Post.contribution

/-- R90: those posts become SENT with the round of the own slot just begun. -/
def State.packed (s : State) : State :=
  { s with posts := { s.posts with posts := packPosts s.bus.round 4 s.posts.posts } }

/-- R91: a post that is SENT under a tag keeps a result. -/
def Post.withResult (tag : Byte) (r : PostResult) (p : Post) : Post :=
  match p.status with
  | .sent stamp _ => if p.tag = tag then { p with status := .sent stamp (some r) } else p
  | .queued => p

/-- R91: the result of an own contribution stored with its SENT post. -/
def State.storeResult (s : State) (tag : Byte) (r : PostResult) : State :=
  { s with posts := { s.posts with posts := s.posts.posts.map (Post.withResult tag r) } }

end Sys2Proof.Machine
end

