-- ==== Sys2Proof/Machine/Transfer.lean ====
section
/-! DEFINITION. Machine/Transfer: the join queue (R121 to R123), the donor (R124 to R129) and what a
joiner does with the frames it follows (R130 to R134). -/

namespace Sys2Proof.Machine

/-! ### The join queue and the serving record -/

/-- R122: a join request from a station: it is queued at the tail unless it is in the queue. -/
def State.joinRequest (s : State) (n : Nat) : State :=
  if n ∈ s.transfer.joinQueue then s
  else { s with transfer := { s.transfer with joinQueue := s.transfer.joinQueue ++ [n] } }

/-- R123: a station leaves the join queue. -/
def State.unqueueJoiner (s : State) (n : Nat) : State :=
  { s with transfer := { s.transfer with joinQueue := s.transfer.joinQueue.filter (· ≠ n) } }

/-- The serving record's joiner becomes none and its word none. -/
def State.endService (s : State) : State :=
  { s with transfer := { s.transfer with serving := none } }

/-- R76, R78: the join queue and the serving record are emptied. -/
def State.emptyDonor (s : State) : State :=
  { s with transfer := { s.transfer with joinQueue := [], serving := none } }

/-- R124: a change of view that makes `n` a member empties the serving record when `n` is numbered
below the station or is the joiner served. -/
def State.serviceAfterAdding (s : State) (n : Nat) : State :=
  match s.transfer.serving with
  | some sv => if n < s.stationNumber ∨ sv.joiner = n then s.endService else s
  | none => s

/-- R125: the word a slot's verdict gives. -/
def wordOf (v : Verdict) : JoinerWord :=
  match v with
  | .silent => .silent
  | .bad _ => .bad
  | .intact (.join j) true => .join j.expect
  | .intact (.join _) false => .other
  | .intact (.tally _) _ => .other

/-- R125: the word of the serving record is set from the verdict of the served joiner's slot. -/
def State.noteWord (s : State) (n : Nat) (v : Verdict) : State :=
  match s.transfer.serving with
  | some sv =>
    if sv.joiner = n then
      { s with transfer := { s.transfer with serving := some { sv with word := wordOf v } } }
    else s
  | none => s

/-- R71, R122, R123, R125: the Transfer Unit takes the verdict of a non-member's slot: a JOIN with
matching tag is a join request, any other verdict removes the station from the queue. -/
def State.takeVerdict (s : State) (n : Nat) (v : Verdict) : State :=
  match v with
  | .intact (.join _) true => (s.joinRequest n).noteWord n v
  | .intact (.join _) false => (s.unqueueJoiner n).noteWord n v
  | .intact (.tally _) _ => (s.unqueueJoiner n).noteWord n v
  | .bad _ => (s.unqueueJoiner n).noteWord n v
  | .silent => (s.unqueueJoiner n).noteWord n v

/-! ### The donor's own-slot decision -/

/-- R124: the donor is the lowest-numbered station of its own view. -/
def State.isDonor (s : State) : Bool := noneBelow s.agreement.view s.stationNumber

/-- R129: the transfer section for a joiner at a first index, and the serving record advanced by 4
unless the index is 28, its word none. -/
def State.supply (s : State) (joiner first : Nat) : State × Option TransferSection :=
  let next := if first = 28 then 28 else first + 4
  ({ s with transfer := { s.transfer with serving := some ⟨joiner, next, .none⟩ } },
    some ⟨joiner, first, s.cellsAt first⟩)

/-- R128: a service starts with the head of the join queue at index 0; with an empty queue no section
is sent. -/
def State.startService (s : State) : State × Option TransferSection :=
  match s.transfer.joinQueue with
  | [] => (s, none)
  | joiner :: _ => s.supply joiner 0

/-- R127: the donor abandons the joiner it serves, and starts with the next one in the same frame. -/
def State.abandon (s : State) (sv : Serving) (reason : Nat) : State × Option TransferSection :=
  let s := s.queueEvent { s.blankEvent .joinerAbandoned with
    station := byteOf sv.joiner
    cell := byteOf sv.next
    code := byteOf reason }
  ((s.unqueueJoiner sv.joiner).endService).startService

/-- R126: the own-slot decision. A member that is not the donor makes none. -/
def State.donorDecision (s : State) : State × Option TransferSection :=
  if s.isDonor then
    match s.transfer.serving with
    | none => s.startService
    | some sv =>
      match sv.word with
      | .join none => s.supply sv.joiner 0
      | .join (some e) =>
        if e = sv.next then s.supply sv.joiner sv.next
        else if e = 0 then s.supply sv.joiner 0
        else s.abandon sv 3
      | .silent => s.abandon sv 1
      | .none => s.abandon sv 1
      | .bad => s.abandon sv 2
      | .other => s.abandon sv 4
  else (s, none)

/-! ### The joiner -/

/-- R120: a cell is received when its index is below the next expected index. -/
def State.received (s : State) (i : Fin 32) : Bool :=
  match s.transfer.receiving with
  | some r => i.val < r.next
  | none => false

/-- R59: the digest advanced over a contribution. -/
def State.advance (s : State) (origin : Nat) (c : Contribution) : State :=
  { s with agreement := { s.agreement with
      digest := advanceDigest s.agreement.digest origin c } }

/-- R131: a joiner applies one contribution: to a received cell only, and to the digest always. -/
def State.followContribution (origin : Nat) (s : State) (c : Contribution) : State :=
  (if s.received c.cell then s.applyToCell origin c else s).advance origin c

/-- R131: a joiner applies a frame's contributions one by one, in list order. -/
def State.followContributions (s : State) (f : TallyFrame) : State :=
  f.contributions.foldl (State.followContribution f.sender) s

/-- R132: whether a TALLY frame with matching tag agrees with the joiner's picture. -/
def State.agreesFollowed (s : State) (r : Receiving) (f : TallyFrame) : Bool :=
  f.round = s.bus.round && f.view = r.followed && f.digest = s.agreement.digest

/-- The receiving record replaced. -/
def State.setReceiving (s : State) (r : Option Receiving) : State :=
  { s with transfer := { s.transfer with receiving := r } }

/-- R130: the first transfer frame: the record filled, the digest set, the round corrected, cells 0 to 3
installed, the contributions applied. -/
def State.beginTransfer (s : State) (f : TallyFrame) (t : TransferSection) : State :=
  let s := s.setReceiving (some ⟨f.view, 0, f.sender⟩)
  let s := { s with
    agreement := { s.agreement with digest := f.digest }
    bus := { s.bus with round := f.round } }
  let s := (s.installCells t).setReceiving (some ⟨f.view, 4, f.sender⟩)
  s.followContributions f

/-- R134: the transfer aborts: the receiving record is emptied, and the Station Controller counts a
failure with the cause TRANSFER_ABORT (R111). -/
def State.abortTransfer (s : State) : State := (s.setReceiving none).failToJoining .transferAbort

/-- R80, R111, R133: admission: the view is the followed view with the station, both counts are 0, the
digest is kept, the receiving record is emptied, the station is MEMBER, and every watch is
re-evaluated. -/
def State.admission (s : State) (r : Receiving) : State :=
  let s := s.setReceiving none
  let s := ((s.setView (stationAdd r.followed s.stationNumber)).clearCounts).changeState .member
    .admitted
  s.reevaluateWatches

/-- R133: an accepted donor frame: cells, contributions, ADMIT, timer. -/
def State.acceptDonorFrame (s : State) (r : Receiving) (f : TallyFrame) (t : TransferSection) :
    State :=
  let r := { r with next := r.next + 4 }
  let s := ((s.installCells t).setReceiving (some r)).followContributions f
  let s := if f.admits then s.admission r else s
  s.correctTimer

/-- R133: the donor's slot ends. -/
def State.donorSlot (s : State) (r : Receiving) (v : Verdict) : State :=
  match v with
  | .intact (.tally f) true =>
    if s.agreesFollowed r f then
      match f.transfer with
      | some t =>
        if t.joiner = s.stationNumber ∧ t.first = r.next then s.acceptDonorFrame r f t
        else s.abortTransfer
      | none => s.abortTransfer
    else s.abortTransfer
  | .intact (.join _) true => s.abortTransfer
  | .intact f false => (s.foreignHeard s.bus.slot f.tag).abortTransfer
  | .bad _ => s.abortTransfer
  | .silent => s.abortTransfer

/-- R132: the followed view after an agreeing frame's marks. -/
def followedAfter (followed : StationSet) (f : TallyFrame) : StationSet :=
  let followed :=
    match f.transfer with
    | some t => if f.admits then stationAdd followed t.joiner else followed
    | none => followed
  if f.farewell then stationRemove followed f.sender else followed

/-- R132: the slot of another station of the followed view ends. -/
def State.followedSlot (s : State) (r : Receiving) (v : Verdict) : State :=
  match v with
  | .intact (.tally f) true =>
    if s.agreesFollowed r f then
      ((s.followContributions f).setReceiving
        (some { r with followed := followedAfter r.followed f })).correctTimer
    else s.abortTransfer
  | .intact (.join _) true =>
    s.setReceiving (some { r with followed := stationRemove r.followed s.bus.slot })
  | .silent => s.setReceiving (some { r with followed := stationRemove r.followed s.bus.slot })
  | .intact f false => (s.foreignHeard s.bus.slot f.tag).abortTransfer
  | .bad _ => s.abortTransfer

/-- R132: the slot of a station outside the followed view ends. -/
def State.outsideSlot (s : State) (v : Verdict) : State :=
  match v with
  | .intact (.join j) true => if j.round = s.bus.round then s.correctTimer else s
  | .intact (.tally _) true => s
  | .intact f false => s.foreignHeard s.bus.slot f.tag
  | .bad _ => s
  | .silent => s

end Sys2Proof.Machine
end

