-- ==== Sys2Proof/Machine/Agreement.lean ====
section
/-! DEFINITION. Machine/Agreement: the slot-end judgement of a MEMBER (R62 to R73, R77, R78), exclusion
(R76, R78) and the own-slot evaluation (R75). -/

namespace Sys2Proof.Machine

/-! ### Applying and accepting -/

/-- R63, R59: a member applies one contribution: cell and watches, then the digest. -/
def State.applyContribution (origin : Nat) (s : State) (c : Contribution) : State :=
  (s.applyToCell origin c).advance origin c

/-- R77, R91: the station applies one contribution of its own and stores its result with the post. -/
def State.applyOwn (origin : Nat) (s : State) (c : Contribution) : State :=
  (s.applyContribution origin c).storeResult c.tag (s.resultOf c)

/-- R64, R77: ADMIT: the joiner is added to the view and leaves the join queue, its service ends, and
PEER_JOINED is queued; a joiner already in the view only leaves the queue. -/
def State.admitJoiner (s : State) (joiner : Nat) : State :=
  if stationIn s.agreement.view joiner then s.unqueueJoiner joiner
  else
    let s := ((s.setView (stationAdd s.agreement.view joiner)).unqueueJoiner
      joiner).serviceAfterAdding joiner
    s.queueEvent { s.blankEvent .peerJoined with station := byteOf joiner }

/-- R64: the ADMIT mark of a frame acted on. -/
def State.actOnAdmit (s : State) (f : TallyFrame) : State :=
  match f.transfer with
  | some t => if f.admits then s.admitJoiner t.joiner else s
  | none => s

/-- R65: the FAREWELL mark of the frame of the slot's member acted on. -/
def State.actOnFarewell (s : State) (f : TallyFrame) : State :=
  if f.farewell then
    let s := s.setView (stationRemove s.agreement.view s.bus.slot)
    s.queueEvent { s.blankEvent .peerLeft with station := byteOf s.bus.slot }
  else s

/-- R61: whether a TALLY frame with matching tag agrees with the observer. -/
def State.agreesWith (s : State) (f : TallyFrame) : Bool :=
  f.round = s.bus.round && f.view = s.agreement.view && f.digest = s.agreement.digest

/-- R63: an agreeing frame is accepted: contributions, count, marks, timer. -/
def State.acceptFrame (s : State) (f : TallyFrame) : State :=
  let s := (f.contributions.foldl (State.applyContribution f.sender) s).countAgree
  ((s.actOnAdmit f).actOnFarewell f).correctTimer

/-! ### Exclusion -/

/-- R76, R78: exclusion with a cause: view, posts, transfer, counts, latch, state; a pending leave is
then honoured in LISTEN (R113). DESIGN CHOICE (assumption 27): it is so too when the frame whose loopback
failed was no FAREWELL, the LEAVE having been taken after that slot's evaluation, which R113 does not
name. -/
def State.exclude (s : State) (cause : ChangeCause) : State :=
  let s := ((((s.setView 0).doubtPosts).emptyDonor).clearCounts).latchExcluded
  (s.failToListen cause).honourLeave

/-! ### The slot-end judgement -/

/-- R66 to R69: a member is removed from the view and PEER_DROPPED is queued with a reason, and with
the BAD reason where there is one. -/
def State.dropPeer (s : State) (m : Nat) (reason : Nat) (badReason : Nat) : State :=
  let s := s.setView (stationRemove s.agreement.view m)
  s.queueEvent { s.blankEvent .peerDropped with
    station := byteOf m
    code := byteOf reason
    extra := byteOf badReason }

/-- R63 to R69: the slot of another member ends. -/
def State.memberSlot (s : State) (m : Nat) (v : Verdict) : State :=
  match v with
  | .silent => s.dropPeer m 1 0
  | .bad reason => s.countDissent.dropPeer m 2 (badReasonCode reason)
  | .intact (.tally f) true =>
    if s.agreesWith f then s.acceptFrame f else s.countDissent.dropPeer m 3 0
  | .intact (.join _) true => (s.dropPeer m 4 0).joinRequest m
  | .intact _ false => s.countDissent.dropPeer m 3 0

/-- R70, R72, R73: what the Agreement Unit itself does with a non-member's slot. -/
def State.noteNonMember (s : State) (n : Nat) (v : Verdict) : State :=
  match v with
  | .intact (.tally _) true =>
    let s := s.countDissent
    s.queueEvent { s.blankEvent .rivalSeen with station := byteOf n }
  | .intact (.join _) true => s
  | .intact f false => s.foreignHeard n f.tag
  | .bad _ => s
  | .silent => s

/-- R70 to R73: the slot of a station outside the view ends; the Transfer Unit takes every verdict. -/
def State.nonMemberSlot (s : State) (n : Nat) (v : Verdict) : State :=
  (s.noteNonMember n v).takeVerdict n v

/-- R77: the own frame was heard back intact. -/
def State.ownFrameIntact (s : State) (f : TallyFrame) : State :=
  let s := (f.contributions.foldl (State.applyOwn f.sender) s).actOnAdmit f
  if f.farewell then ((s.setView 0).clearCounts).enterStandby else s

/-- R77, R78: the end of the own slot of a MEMBER: the loopback verdict on the frame it sent. -/
def State.ownSlotEnd (s : State) (v : Verdict) : State :=
  if s.frameCheck.transmit = [] then s
  else
    match s.loopbackIntact v with
    | some (.tally f) => s.ownFrameIntact f
    | some (.join _) => s
    | none => s.exclude .loopback

/-- R62: the judgement of a slot by its owner, against the view as it stands. -/
def State.judgeMember (s : State) (v : Verdict) : State :=
  let owner := s.bus.slot
  if owner = s.stationNumber then s.ownSlotEnd v
  else if stationIn s.agreement.view owner then s.memberSlot owner v
  else s.nonMemberSlot owner v

/-! ### The own-slot evaluation -/

/-- R75, R113: the FAREWELL frame of a pending leave; the service ends without a section (R129). -/
def State.buildFarewell (s : State) : State :=
  s.endService.loadFrame s.farewellFrame.bytes

/-- R54, R75, R90, R126: the donor's decision, the packing, and the TALLY frame. -/
def State.buildTally (s : State) : State :=
  let decided := s.donorDecision
  let s := decided.1
  let contributions := s.packedContributions
  s.packed.loadFrame (s.tallyFrame contributions decided.2).bytes

/-- R75: the failure count returns to 0 at an evaluation that keeps the station, the founder's first
one (R104) aside. -/
def State.clearFailures (s : State) (founder : Bool) : State :=
  if founder then s else { s with controller := { s.controller with failures := 0 } }

/-- R75: the steps of an evaluation that keeps the station. -/
def State.keepInView (s : State) (founder : Bool) : State :=
  let s := (s.settlePosts.clearCounts).clearFailures founder
  if s.controller.pendingLeave then s.buildFarewell else s.buildTally

/-- R75, R76: the own-slot evaluation; a tie keeps the station in. -/
def State.ownSlotEvaluation (s : State) (founder : Bool) : State :=
  if s.agreement.agree < s.agreement.dissent then s.exclude .excluded else s.keepInView founder

end Sys2Proof.Machine
end

