-- ==== Sys2Proof/Machine/Schedule.lean ====
section
/-! DEFINITION. Machine/Schedule: the Station Controller's part in the schedule: founding (R104),
synchronisation (R105), the wait in LISTEN (R106, R107), JOINING (R108 to R110), and what every active
state does at a slot end and at its own slot start (R27, R62). -/

namespace Sys2Proof.Machine

/-! ### Own slot start -/

/-- R55, R108, R135: the station's JOIN frame goes to the transmit buffer. -/
def State.loadJoin (s : State) (expect : Option Nat) : State :=
  s.loadFrame (s.joinFrame expect).bytes

/-- R108: the JOINING own-slot step. -/
def State.joiningStep (s : State) : State :=
  if s.controller.joinTimer < 8 then
    { s with controller := { s.controller with
        joinTimer := s.controller.joinTimer + 1 } }.loadJoin none
  else s.failToListen .joinTimeout

/-- R107: the station leaves LISTEN for JOINING and makes its first own-slot step. -/
def State.leaveListen (s : State) : State :=
  let s := { s with controller := { s.controller with listenTimer := 0 } }
  let s := s.changeState .joining .synchronised
  { s with controller := { s.controller with joinTimer := 0 } }.joiningStep

/-- R135: the JOIN of a RECEIVING station carries the next expected index. -/
def State.receivingStep (s : State) : State :=
  match s.transfer.receiving with
  | some r => s.loadJoin (some r.next)
  | none => s

/-- R27: the own slot start in the state that uses it. -/
def State.ownSlotStart (s : State) : State :=
  match s.controller.state with
  | .listen => if s.stationCount ≤ s.controller.waitCount then s.leaveListen else s
  | .joining => s.joiningStep
  | .receiving => s.receivingStep
  | .member => s.ownSlotEvaluation false
  | .unconfigured => s
  | .ready => s
  | .standby => s
  | .halted => s

/-! ### Slot ends outside MEMBER -/

/-- R106: a slot end in synchronised LISTEN. -/
def State.judgeListen (s : State) (v : Verdict) : State :=
  let s := { s with controller := { s.controller with
      waitCount := min (s.controller.waitCount + 1) s.stationCount } }
  match v with
  | .intact f true =>
    if f.round = s.bus.round then s.correctTimer
    else
      { s with
        bus := { s.bus with round := f.round }
        controller := { s.controller with waitCount := 1 } }.correctTimer
  | .intact f false => s.foreignHeard s.bus.slot f.tag
  | .bad _ => s
  | .silent => s

/-- R35, R110: the loopback verdict on the station's own JOIN frame. -/
def State.ownJoinEnd (s : State) (v : Verdict) : State :=
  if s.frameCheck.transmit = [] then s
  else
    match s.loopbackIntact v with
    | some _ => s
    | none => (s.setReceiving none).failToListen .loopback

/-- R109, R130: the transfer begins: RECEIVING, the receiving record filled, the timer corrected. The
join timer, stopped in RECEIVING (R108 gives it no value there), is kept at 0: DESIGN CHOICE
(assumption 26). -/
def State.transferBegun (s : State) (f : TallyFrame) (t : TransferSection) : State :=
  let s := s.changeState .receiving .transferBegun
  let s := { s with controller := { s.controller with joinTimer := 0 } }
  (s.beginTransfer f t).correctTimer

/-- R109: an INTACT TALLY frame with matching tag in JOINING. One that names the station with a first
index other than 0 is accepted for timer correction whatever its round: DESIGN CHOICE (assumption 25)
between the rule's second and fourth entries. -/
def State.joiningTally (s : State) (f : TallyFrame) : State :=
  let accepted := if f.round = s.bus.round then s.correctTimer else s
  match f.transfer with
  | some t =>
    if t.joiner = s.stationNumber then
      if t.first = 0 then s.transferBegun f t else s.correctTimer
    else accepted
  | none => accepted

/-- R109: the slot of another station ends in JOINING. -/
def State.judgeJoining (s : State) (v : Verdict) : State :=
  match v with
  | .intact (.tally f) true => s.joiningTally f
  | .intact (.join j) true => if j.round = s.bus.round then s.correctTimer else s
  | .intact f false => s.foreignHeard s.bus.slot f.tag
  | .bad _ => s
  | .silent => s

/-- R132, R133: the slot of another station ends in RECEIVING. -/
def State.judgeReceiving (s : State) (v : Verdict) : State :=
  match s.transfer.receiving with
  | none => s
  | some r =>
    if s.bus.slot = r.donor then s.donorSlot r v
    else if stationIn r.followed s.bus.slot then s.followedSlot r v
    else s.outsideSlot v

/-- R62, R106, R109, R110, R132, R135: the verdict of the slot that ends goes to the block that judges
it in the station's state. -/
def State.judgeSlot (s : State) (v : Verdict) : State :=
  match s.controller.state with
  | .listen => s.judgeListen v
  | .joining => if s.bus.slot = s.stationNumber then s.ownJoinEnd v else s.judgeJoining v
  | .receiving => if s.bus.slot = s.stationNumber then s.ownJoinEnd v else s.judgeReceiving v
  | .member => s.judgeMember v
  | .unconfigured => s
  | .ready => s
  | .standby => s
  | .halted => s

/-! ### Synchronisation and founding -/

/-- R28, R105: the schedule placed at a frame whose first start bit fell `age` sixteenths of a bit time
ago: that start bit lies at offset 32 of the sender's slot. The frame stands as that slot's frame. -/
def State.synchronise (s : State) (f : TallyFrame) (age : Nat) : State :=
  { s with
    bus := { s.bus with
      sync := true, slotTimer := bits 32 + age, slot := f.sender, round := f.round,
      start := .inWindow (bits 32), further := false, carried := false }
    frameCheck := { s.frameCheck with judged := some (.intact (.tally f) true) }
    controller := { s.controller with waitCount := 0 } }

/-- R105: a judged frame handed to an unsynchronised station in LISTEN. -/
def State.unsynchronisedFrame (s : State) (v : Verdict) (age : Nat) : State :=
  match v with
  | .intact (.tally f) true => s.synchronise f age
  | .intact (.join _) true => s
  | .intact f false => s.foreignHeard f.sender f.tag
  | .bad _ => s
  | .silent => s

/-- R28, R104: the schedule of a founder: round 0, its own slot, the slot timer at 0. A run still in
progress is discarded (assumption 30). -/
def State.foundSchedule (s : State) : State :=
  { s with
    bus := { Bus.reset with sync := true, slot := s.stationNumber }
    frameCheck := { s.frameCheck with receive := [], transmit := [], judged := none } }

/-- R104: founding: schedule, state, picture, watches, first evaluation. -/
def State.found (s : State) : State :=
  let s := s.foundSchedule
  let s := { s with controller := { s.controller with listenTimer := 0 } }
  let s := s.changeState .member .founded
  let s := ((s.setView (stationOnly s.stationNumber)).clearCounts)
  let s := { s with agreement := { s.agreement with digest := 0 } }
  s.reevaluateWatches.ownSlotEvaluation true

end Sys2Proof.Machine
end

