-- ==== Sys2Proof/Machine/Line.lean ====
section
/-! DEFINITION. Machine/Line: characters, the level of RXD and runs (R24, R25, R29 to R31), silence
(R37, R103), the own transmission (R34), and the slot end as a whole (R27, R30). Times are in
sixteenths of a bit time. -/

namespace Sys2Proof.Machine

/-! ### Characters (R24) -/

/-- R24: the fall is a start bit when RXD is still low half a bit time later. -/
def startBit (samples : BitVec 10) : Bool := !samples.getLsbD 0

/-- R24: the data byte of a character, least significant bit first on the line. -/
def dataByte (samples : BitVec 10) : Byte := samples.extractLsb' 1 8

/-- R24: a stop bit sampled low is a framing fault. -/
def stopLow (samples : BitVec 10) : Bool := !samples.getLsbD 9

/-- R24: the ten samples of a byte sent as a character: start bit low, data, stop bit high. -/
def characterOf (b : Byte) : BitVec 10 := 1#1 ++ b ++ 0#1

/-- The end of the last low bit of a character within its first `t` sixteenths. -/
def lastLowEnd (samples : BitVec 10) (t : Nat) : Nat :=
  [0, 1, 2, 3, 4, 5, 6, 7, 8, 9].foldl
    (fun m i => if samples.getLsbD i = false ∧ bits i < t then min t (bits (i + 1)) else m) 0

/-! ### The level of RXD (R24, R37) -/

/-- R24: the time from the latest fall until its stop bit is over and RXD is high: the end of a high
stop bit, or the line's return to high after a low one. -/
def Rxd.idleAt (r : Rxd) : Nat := bits 10 + if stopLow r.fall.samples then r.fall.low else 0

/-- The time from the latest fall until RXD is high for good, unless it falls again. -/
def Rxd.lowEnd (r : Rxd) : Nat :=
  if stopLow r.fall.samples then r.idleAt else lastLowEnd r.fall.samples (bits 10)

/-- R37: how long RXD will have been high, without a break, when `n` sixteenths have passed. -/
def Rxd.highAfter (r : Rxd) (n : Nat) : Nat :=
  if stopLow r.fall.samples ∧ bits 10 ≤ r.age + n then r.age + n - r.idleAt
  else r.age + n - lastLowEnd r.fall.samples (r.age + n)

/-- R24: the time until RXD is high: 0 while it is high. -/
def Rxd.untilHigh (r : Rxd) : Nat :=
  match [0, 1, 2, 3, 4, 5, 6, 7, 8, 9].find?
      (fun i => r.fall.samples.getLsbD i && decide (r.age < bits (i + 1))) with
  | some i => bits i - r.age
  | none => r.idleAt - r.age

/-- Time passes on the line. -/
def Rxd.later (r : Rxd) (n : Nat) : Rxd := { r with age := r.age + n }

/-! ### Time -/

/-- R37, R103: the listen timer after time has passed in LISTEN: it advances while RXD is high, and it
is never more than the time for which RXD has been high without a break. -/
def State.listenAfter (s : State) (n : Nat) : Nat :=
  if s.controller.state = .listen then
    min (s.controller.listenTimer + n) (s.rxd.highAfter n)
  else s.controller.listenTimer

/-- Time passes: the slot timer while synchronised (R27), the age of the run in progress, the line, the
listen timer in LISTEN (R103). -/
def State.passTime (s : State) (n : Nat) : State :=
  { s with
    bus := { s.bus with
      slotTimer := if s.bus.sync then s.bus.slotTimer + n else s.bus.slotTimer
      run := s.bus.run.map fun r => { r with age := r.age + n } }
    controller := { s.controller with listenTimer := s.listenAfter n }
    rxd := s.rxd.later n }

/-- The time until the slot timer reads at least a reading. -/
def State.timeToReading (s : State) (reading : Int) : Nat := (reading - s.bus.slotTimer).toNat

/-- Time passes until the slot timer reads at least a reading. -/
def State.passTo (s : State) (reading : Int) : State :=
  s.passTime (s.timeToReading reading)

/-! ### Runs (R25, R29 to R31) -/

/-- R25: RXD has been high for more than 2 bit times after the latest stop bit: a run in progress is
over. -/
def Rxd.endsRun (r : Rxd) : Bool := r.idleAt + bits 2 < r.age

/-- R25, R42: the run in progress ends. A slot's IN WINDOW frame is judged and waits for the slot end
(R53); an unsynchronised station's frame is judged and acted on at once (R31, R105); a run followed
only for its end leaves nothing. -/
def State.endRun (s : State) : State :=
  match s.bus.run with
  | none => s
  | some r =>
    let ended := { s with bus := { s.bus with run := none } }
    if r.isFrame then
      let v := judgeRun (if s.bus.sync then some s.bus.slot else none) s.stationCount s.configTag
        r.count r.lowStop s.frameCheck.receive
      if s.bus.sync then
        { ended with frameCheck := { s.frameCheck with judged := some v } }
      else
        { ended with frameCheck := { s.frameCheck with receive := [] } }.unsynchronisedFrame v r.age
    else ended

/-- R25: the run in progress ends if RXD has been high for more than 2 bit times after its latest stop
bit. -/
def State.endRunIfOver (s : State) : State := if s.rxd.endsRun then s.endRun else s

/-- R25: a character of a frame goes to the receive buffer, up to the 93rd of its run. -/
def State.storeCharacter (s : State) (count : Nat) (b : Byte) : State :=
  if count < 93 then
    { s with frameCheck := { s.frameCheck with receive := s.frameCheck.receive ++ [b] } }
  else s

/-- R35: in the own slot of a station that sends, every character on RXD goes to the loopback capture,
up to 93 of them, whatever the run it belongs to (assumption 21). -/
def State.captureCharacter (s : State) (b : Byte) : State :=
  if s.bus.tx ≠ .idle ∧ s.bus.loopback.length < 93 then
    { s with bus := { s.bus with loopback := s.bus.loopback ++ [b] } }
  else s

/-- R29: how a slot stands by the offset of its first start bit. -/
def startVerdict (offset : Int) : SlotStart :=
  if offset < bits 16 then .early
  else if offset ≤ bits 48 then .inWindow offset
  else .late

/-- R29: whether a first run is received as the slot's frame. -/
def SlotStart.receives (v : SlotStart) : Bool :=
  match v with
  | .inWindow _ => true
  | .silent => false
  | .early => false
  | .late => false

/-- A run that begins with a character. -/
def Run.beginning (isFrame : Bool) (samples : BitVec 10) : Run :=
  { isFrame := isFrame, count := 1, lowStop := stopLow samples, age := 0 }

/-- R29 to R31: a start bit begins a run. Without slots every run is a frame; in a slot the first run
gives the timing verdict, and a further run after an IN WINDOW frame spoils it. -/
def State.beginRun (s : State) (samples : BitVec 10) : State :=
  if s.bus.sync then
    match s.bus.start with
    | .silent =>
      let verdict := startVerdict s.bus.slotTimer
      let begun := { s with bus := { s.bus with
          start := verdict, run := some (.beginning verdict.receives samples) } }
      if verdict.receives then
        { begun with frameCheck := { s.frameCheck with receive := [] } }.storeCharacter 0
          (dataByte samples)
      else begun
    | .inWindow _ =>
      { s with bus := { s.bus with further := true, run := some (.beginning false samples) } }
    | .early => { s with bus := { s.bus with run := some (.beginning false samples) } }
    | .late => { s with bus := { s.bus with run := some (.beginning false samples) } }
  else
    { s with
      bus := { s.bus with run := some (.beginning true samples) }
      frameCheck := { s.frameCheck with receive := [] } }.storeCharacter 0 (dataByte samples)

/-- R25: a start bit adds a character to the run in progress (assumption 10, after a low stop bit). -/
def State.extendRun (s : State) (r : Run) (samples : BitVec 10) : State :=
  let longer := { s with bus := { s.bus with run := some { r with
      count := r.count + 1, lowStop := r.lowStop || stopLow samples } } }
  if r.isFrame then longer.storeCharacter r.count (dataByte samples) else longer

/-- R37: a start bit is reported in LISTEN, and the listen timer restarts. -/
def State.reportActivity (s : State) : State :=
  if s.controller.state = .listen then
    { s with controller := { s.controller with listenTimer := 0 } }
  else s

/-- R24, R25, R35: a character begins with a start bit: it extends the run in progress or begins one,
and it is captured during the own transmission. -/
def State.startCharacter (s : State) (samples : BitVec 10) : State :=
  let s := s.reportActivity
  let s :=
    match s.bus.run with
    | some r => s.extendRun r samples
    | none => s.beginRun samples
  s.captureCharacter (dataByte samples)

/-- The time until an instant at which RXD has been high for `gap`. While a run is in progress the high
level counts from the end of the latest stop bit or from the line's return to high after it; otherwise
from now, or from the first instant at which RXD is high. DESIGN CHOICE (assumption 24): `gap` being a
natural number, no fall lies between the sample of a stop bit and that stop bit's end, where the manual
does not say whether a character could start. -/
def State.timeToGap (s : State) (gap : Nat) : Nat :=
  match s.bus.run with
  | some _ => s.rxd.idleAt + gap - s.rxd.age
  | none => s.rxd.untilHigh + gap

/-- R24, R37: a start bit on the line: the level RXD has from its fall on. -/
def State.noteFall (s : State) (fall : RxdFall) : State := { s with rxd := ⟨fall, 0⟩ }

/-- R24 to R26, R30, R37: RXD falls; a glitch is ignored. At a start bit a run that is over has ended,
and an active station takes the character. -/
def State.fallOnRxd (s : State) (gap : Nat) (fall : RxdFall) : State :=
  let s := s.passTime (s.timeToGap gap)
  if startBit fall.samples then
    if s.controller.state.active then
      (s.endRunIfOver.noteFall fall).startCharacter fall.samples
    else s.noteFall fall
  else s

/-- R25: the run in progress ends: RXD has been high for more than 2 bit times after a stop bit. -/
def State.runOver (s : State) (gap : Nat) : State :=
  match s.bus.run with
  | none => s
  | some _ => (s.passTime (s.timeToGap (max gap (bits 2 + 1)))).endRun

/-! ### The own transmission (R34) -/

/-- R34: the frame's characters take ten bit times each. -/
def State.transmissionEndsAt (s : State) : Int :=
  bits (32 + 10 * s.frameCheck.transmit.length)

/-- R34, R114: the end of the last stop bit: DE is deasserted, and a LEAVE deferred until then moves the
station to STANDBY. -/
def State.finishTransmission (s : State) : State :=
  let s := s.passTo s.transmissionEndsAt
  let s := { s with bus := { s.bus with tx := .sent } }
  if s.controller.leaveAtTxEnd then s.enterStandby else s

/-- R24, R34: the level of TXD: the bit of the character on the line during the own transmission, high
otherwise. -/
def State.txd (s : State) : Bool :=
  if s.bus.tx = .sending then
    let position := (s.bus.slotTimer - bits 32).toNat / 16
    match s.frameCheck.transmit[position / 10]? with
    | some b => (characterOf b).getLsbD (position % 10)
    | none => true
  else true

/-! ### The slot end (R27, R30) -/

/-- R29, R30, R53: the verdict of the slot that ends: by its first run, spoiled by a further run or by
a frame still in progress at the boundary. DESIGN CHOICE (assumption 32): such a frame is BAD(FRAMING)
by R30, whatever R51's other checks would find first in the run as it is closed. -/
def State.slotVerdict (s : State) : Verdict :=
  match s.bus.start with
  | .silent => .silent
  | .early => .bad .early
  | .late => .bad .late
  | .inWindow _ =>
    if s.bus.further || s.bus.run.any Run.isFrame then .bad .framing
    else s.frameCheck.judged.getD (.bad .framing)

/-- R27: the numbers of the next slot. -/
def State.nextSlot (s : State) : Nat :=
  if s.bus.slot + 1 < s.stationCount then s.bus.slot + 1 else 0

/-- R27: the round of the next slot: the round number increments at the start of slot 0. -/
def State.nextRound (s : State) : Round :=
  if s.bus.slot + 1 < s.stationCount then s.bus.round else s.bus.round + 1

/-- R27, R30, R42, R56: the next slot begins: the timer less L, the new numbers, nothing heard yet, both
buffers emptied; a run carried over is noted (R35) and followed only for its end. -/
def State.beginNextSlot (s : State) : State :=
  { s with
    bus := { s.bus with
      slotTimer := s.bus.slotTimer - s.slotSixteenths
      slot := s.nextSlot, round := s.nextRound, start := .silent, further := false
      carried := s.bus.run.isSome
      run := s.bus.run.map fun r => { r with isFrame := false }
      loopback := [], tx := .idle }
    frameCheck := { s.frameCheck with receive := [], transmit := [], judged := none } }

/-- R27: the own slot start is signalled in the own slot. -/
def State.signalOwnSlot (s : State) : State :=
  if s.bus.slot = s.stationNumber then s.ownSlotStart else s

/-- R28 and assumption 6: the numbers a station keeps that leaves the schedule at a slot end. -/
def State.numbersOnLeaving (s : State) : State :=
  if Config.leavingTakesNextNumbers then
    { s with bus := { s.bus with slot := s.nextSlot, round := s.nextRound } }
  else s

/-- R27, R62: the boundary: the slot that ends is judged with its own numbers; a station still in the
schedule begins the next slot, and its own slot start follows. -/
def State.slotBoundary (s : State) : State :=
  let judged := s.judgeSlot s.slotVerdict
  if judged.bus.sync then judged.beginNextSlot.signalOwnSlot else judged.numbersOnLeaving

/-- R27, R30: the slot timer reaches L. A transmission still marked as on the line has ended by then
(R34), and so has a run after which RXD has been high for more than 2 bit times (R25). -/
def State.endSlot (s : State) : State :=
  let s := if s.bus.tx = .sending then s.finishTransmission else s
  if s.bus.sync then ((s.passTo s.slotSixteenths).endRunIfOver).slotBoundary else s

/-! ### The tick -/

/-- R103: the time until the listen timer reaches its limit, if nothing else falls on RXD. -/
def State.timeToExpiry (s : State) : Nat :=
  max (s.listenLimit - s.controller.listenTimer) (s.rxd.lowEnd + s.listenLimit - s.rxd.age)

/-- The commands of the station's own clock that are due (R25, R27, R34, R103). -/
def State.dueCommands (s : State) : List Instr :=
  (if s.bus.run ≠ none ∧ s.rxd.endsRun then [Instr.runEnd 0] else []) ++
  (if s.bus.tx = .built ∧ (bits 32 : Int) ≤ s.bus.slotTimer then [.ownTransmissionStart] else []) ++
  (if s.bus.tx = .sending ∧ s.transmissionEndsAt ≤ s.bus.slotTimer then [.transmissionEnd] else []) ++
  (if s.bus.sync ∧ (s.slotSixteenths : Int) ≤ s.bus.slotTimer then [.slotEnd] else []) ++
  (if s.controller.state = .listen ∧ s.listenLimit ≤ s.controller.listenTimer then
    [.listenTimerExpiry] else [])

/-- DESIGN CHOICE (assumption 2): what the station does while no command waits: a sixteenth of a bit
time passes, and the commands of its own clock that are due are put in the queue. -/
def State.tick (s : State) : State :=
  let s := s.passTime 1
  { s with pending := s.pending ++ s.dueCommands }

end Sys2Proof.Machine
end

