-- ==== Sys2Proof/Machine/BusCommands.lean ====
section
/-! DEFINITION. Machine/BusCommands: the commands of the bus side: the line, the slot timer, the own
transmission and the listen timer. A command whose instant cannot come in the state the station is in
has no effect (assumption 3). -/

namespace Sys2Proof.Machine

/-- BUS_ACTIVITY (R24, R25, R37): RXD falls. In the passive states only the level of the line changes:
nothing is gathered or reported (R26). -/
def execBusActivity (gap : Nat) (fall : RxdFall) (s : State) : StepResult :=
  .next (s.fallOnRxd gap fall)

/-- RUN_END (R25, R31, R53): the run in progress ends and is handed to Frame Check. -/
def execRunEnd (gap : Nat) (s : State) : StepResult :=
  .next (if s.controller.state.active then s.runOver gap else s)

/-- SLOT_END (R27): the slot timer reaches L. While the sync flag is clear no slot end is signalled
(R28). -/
def execSlotEnd (s : State) : StepResult := .next (if s.bus.sync then s.endSlot else s)

/-- OWN_TRANSMISSION_START (R34): at offset 32 of the own slot DE is asserted and the first start bit
begins, when a frame was supplied. -/
def execOwnTransmissionStart (s : State) : StepResult :=
  .next
    (if s.bus.tx = .built then
      let s := s.passTo (bits 32)
      { s with bus := { s.bus with tx := .sending } }
    else s)

/-- TRANSMISSION_END (R34, R114): the own frame's last stop bit ends. -/
def execTransmissionEnd (s : State) : StepResult :=
  .next (if s.bus.tx = .sending then s.finishTransmission else s)

/-- LISTEN_TIMER_EXPIRY (R103, R104): the listen timer reaches its limit in LISTEN, the line having been
high for that long: the station founds a cluster. The timer is stopped in every other state. DESIGN CHOICE
(assumption 30): the time passes over the end of a run still in progress, for which no RUN_END was given,
and founding discards that run unjudged. -/
def execListenTimerExpiry (s : State) : StepResult :=
  .next (if s.controller.state = .listen then (s.passTime s.timeToExpiry).found else s)

end Sys2Proof.Machine
end

