-- ==== Sys2Proof/Machine/Resets.lean ====
section
/-! DEFINITION. Machine/Resets: the three kinds of reset (R175, R176), and the commands POWER_ON,
RESETN_ASSERT and RESETN_RELEASE. -/

namespace Sys2Proof.Machine

/-- R176: every block at its reset values, the configuration cleared, no event queued. The levels of
CSn and RESETn are the host's and RXD is the bus's (assumption 7); a select period in progress is void (its
phase is idle). -/
def State.hardReset (s : State) : State :=
  { State.reset with
    host := { HostPort.reset with csn := s.host.csn }
    resetn := s.resetn
    rxd := s.rxd
    pending := s.pending }

/-- R175: the state after the RESET request: UNCONFIGURED stays, any other state becomes READY. -/
def stateAfterReset (st : StationState) : StationState :=
  if st = .unconfigured then .unconfigured else .ready

/-- R174, R175: the RESET request takes effect: every block at its reset values, the configuration and
the config tag kept, and STATE_CHANGED(RESET_REQUEST) the only event. -/
def State.requestReset (s : State) : State :=
  let cleared := { s.hardReset with
    config := s.config
    frameCheck := { FrameCheck.reset with tag := s.frameCheck.tag } }
  cleared.changeState (stateAfterReset s.controller.state) .resetRequest

/-- POWER_ON (R176): power-on resets the station. -/
def execPowerOn (s : State) : StepResult := .next s.hardReset

/-- RESETN_ASSERT (R38, R39, R176): the station is reset as by power-on at the instant the line goes
low: an own transmission is cut off and a select period in progress is void. -/
def execResetnAssert (s : State) : StepResult := .next { s.hardReset with resetn := false }

/-- RESETN_RELEASE (R176): the line goes high; the station stays as the reset left it. -/
def execResetnRelease (s : State) : StepResult := .next { s with resetn := true }

end Sys2Proof.Machine
end

