-- ==== Sys2Proof/Machine/HostPort.lean ====
section
/-! DEFINITION. Machine/HostPort: select periods and the taking of requests (R163 to R167), what each
request claims of the blocks, and the commands of the host port. -/

namespace Sys2Proof.Machine

/-! ### Replies -/

/-- A reply of OK with its fields (R166). -/
def Reply.ok (fields : List Byte) : Reply := ⟨.ok, fields⟩

/-- A reply whose result is not OK: the result byte is the whole reply (R166). -/
def Reply.only (result : ResultCode) : Reply := ⟨result, []⟩

/-- R166, R171: the fifteen fields of STATUS. -/
def State.statusFields (s : State) : List Byte :=
  [byteOf (stateCode s.controller.state), byteOf s.controller.failures] ++ bytes2 s.bus.round ++
    [byteOf s.bus.slot] ++ bytes2 s.agreement.view ++
    [byteOf s.agreement.agree, byteOf s.agreement.dissent,
      byteOf s.posts.queuedPosts.length, byteOf s.posts.sentPosts.length, byteOf s.events.length,
      byteOf s.transfer.joinQueue.length,
      (match s.transfer.serving with
        | some sv => byteOf sv.joiner
        | none => 255),
      latchByte s.host.latches]

/-- R172: the capture: each latch set in the captured byte has its capture mark cleared. -/
def Latches.captured (marks latches : Latches) : Latches :=
  ⟨marks.viewChanged && !latches.viewChanged, marks.excluded && !latches.excluded,
    marks.foreign && !latches.foreign⟩

/-- R166: an event record as TAKE EVENT shifts it out. -/
def EventRecord.bytes (e : EventRecord) : List Byte :=
  [byteOf (eventKindCode e.kind)] ++ bytes2 e.round ++
    [e.slot, e.station, e.cell, e.item, e.code] ++ bytes5 e.value ++ [e.extra]

/-! ### The claims of the requests

A request is claimed with all its parameter bytes (R165), so the arms for shorter lists are never
reached. -/

/-- R171, R172: STATUS. -/
def State.claimStatus (s : State) : State × Reply :=
  ({ s with host := { s.host with marks := s.host.marks.captured s.host.latches } },
    .ok s.statusFields)

/-- R168: the configuration record of a request, when its checks 2 to 5 pass. -/
def configurationOf (params : List Byte) : Option Configuration :=
  match params with
  | n :: c :: r :: l :: p0 :: p1 :: p2 :: p3 :: p4 :: p5 :: p6 :: p7 :: _ =>
    if 2 ≤ c.toNat ∧ c.toNat ≤ 16 ∧ n.toNat < c.toNat ∧ r.toNat ≤ 3 ∧ 16 ≤ l.toNat ∧
        l.toNat ≤ 64 then
      some ⟨n.toNat, c.toNat, r.toNat, l.toNat, p7 ++ p6 ++ p5 ++ p4 ++ p3 ++ p2 ++ p1 ++ p0⟩
    else none
  | _ => none

/-- R2, R26, R49, R169: an accepted configuration installed: the record, the cells, the config tag. -/
def State.install (s : State) (c : Configuration) : State :=
  { s.clearCells with
    config := some c
    frameCheck := { s.frameCheck with tag := some (configTagOf c) } }

/-- R101, R168, R169: CONFIGURE. -/
def State.claimConfigure (s : State) (params : List Byte) : State × Reply :=
  match s.controller.state, configurationOf params with
  | .unconfigured, some c =>
    ((s.install c).changeState .ready .configured, .ok [configTagOf c])
  | .ready, some c => (s.install c, .ok [configTagOf c])
  | .unconfigured, none => (s, .only .range)
  | .ready, none => (s, .only .range)
  | _, _ => (s, .only .state)

/-- R102: the states in which START is accepted. -/
def StationState.startable (st : StationState) : Bool :=
  match st with
  | .ready => true
  | .standby => true
  | .halted => true
  | .unconfigured => false
  | .listen => false
  | .joining => false
  | .receiving => false
  | .member => false

/-- R102: START. -/
def State.claimStart (s : State) : State × Reply :=
  if s.controller.state.startable then
    ({ s with
        controller := { s.controller with failures := 0 }
        agreement := { s.agreement with foreignSeen := 0 } }.enterListen .hostStart, .ok [])
  else (s, .only .state)

/-- R112, R114: LEAVE from JOINING or RECEIVING: at once, or at the end of the own JOIN on the line.
DESIGN CHOICE (assumption 31): on the line means from offset 32 on, as R114 says, also right after the
own-slot step, where R107 already calls the JOIN on the line. -/
def State.leaveJoiner (s : State) : State :=
  if s.bus.tx = .sending then
    { s with controller := { s.controller with leaveAtTxEnd := true } }
  else s.enterStandby

/-- R112: LEAVE. -/
def State.claimLeave (s : State) : State × Reply :=
  match s.controller.state with
  | .member => ({ s with controller := { s.controller with pendingLeave := true } }, .ok [])
  | .listen => (s.enterStandby, .ok [])
  | .joining => (s.leaveJoiner, .ok [])
  | .receiving => (s.leaveJoiner, .ok [])
  | .unconfigured => (s, .only .state)
  | .ready => (s, .only .state)
  | .standby => (s, .only .state)
  | .halted => (s, .only .state)

/-- R174: RESET: reset pending is set, and nothing else changes yet. -/
def State.claimReset (s : State) : State × Reply :=
  ({ s with host := { s.host with resetPending := true } }, .ok [])

/-- R85: POST. -/
def State.claimPost (s : State) (params : List Byte) : State × Reply :=
  match params with
  | k :: c :: o3 :: o2 :: o1 :: o0 :: _ =>
    if s.controller.state = .unconfigured then (s, .only .state)
    else
      match kindOfCode k, cellOfByte c with
      | some kind, some cell =>
        if s.posts.posts.length < 16 then
          (s.appendPost kind cell (join4 o3 o2 o1 o0),
            .ok [freeTag s.posts.posts 16 s.posts.nextTag])
        else (s, .only .queueFull)
      | _, _ => (s, .only .range)
  | _ => (s, .only .malformed)

/-- The post with a tag (R87, R89). -/
def PostQueue.find (q : PostQueue) (tag : Byte) : Option Post := q.posts.find? fun p => p.tag = tag

/-- R87: CANCEL. -/
def State.claimCancel (s : State) (params : List Byte) : State × Reply :=
  match params with
  | tag :: _ =>
    match s.posts.find tag with
    | some p =>
      if p.queued then
        ({ s with posts := { s.posts with posts := s.posts.posts.filter (·.tag ≠ tag) } }, .ok [])
      else (s, .only .inFlight)
    | none => (s, .only .notFound)
  | [] => (s, .only .malformed)

/-- R89: QUERY POST. -/
def State.claimQueryPost (s : State) (params : List Byte) : State × Reply :=
  match params with
  | tag :: _ =>
    match s.posts.find tag with
    | some p =>
      match p.status with
      | .queued => (s, .ok [0, 0, 0])
      | .sent stamp _ => (s, .ok ([1] ++ bytes2 stamp))
    | none => (s, .only .notFound)
  | [] => (s, .only .malformed)

/-- R166, R173: the thirteen reply fields of READ CELL. -/
def State.cellFields (s : State) (i : Fin 32) : List Byte :=
  bytes5 (s.cell i).value ++ bytes4 (s.cell i).residue ++ [flagsByte (s.cell i).flags] ++
    bytes2 (s.cell i).version ++ [byteOfBool s.stale]

/-- R173: READ CELL. -/
def State.claimReadCell (s : State) (params : List Byte) : State × Reply :=
  match params with
  | c :: _ =>
    match cellOfByte c with
    | some i => (s, .ok (s.cellFields i))
    | none => (s, .only .range)
  | [] => (s, .only .malformed)

/-- R142: the lowest-numbered empty entry. -/
def State.emptyEntry (s : State) : Option (Fin 16) :=
  watchEntries.find? fun i => s.watch.entries[i].isNone

/-- R138, R141: whether some entry equals a request. -/
def State.duplicateWatch (s : State) (cell : Fin 32) (condition : WatchCondition)
    (threshold : CellValue) : Bool :=
  watchEntries.any fun i => sameWatch cell condition threshold s.watch.entries[i]

/-- R142: a new watch fills an entry with the state its test finds; WATCH_ON is queued when it HOLDS. -/
def State.fillEntry (s : State) (i : Fin 16) (w : Watch) : State × Reply :=
  let holds := s.testWatch w
  let filled := s.setEntry i (some { w with holds := holds })
  (if holds then filled.queueEvent (s.watchEvent .watchOn i w.cell) else filled,
    .ok [byteOf i.val, byteOfBool holds])

/-- R141, R142: SET WATCH, checks 3 to 5 and the new watch. -/
def State.setWatchChecked (s : State) (cell : Fin 32) (condition : WatchCondition)
    (threshold : CellValue) (line : Option (Fin 4)) : State × Reply :=
  let threshold := storedThreshold condition threshold
  if condition = .change ∧ line ≠ none then (s, .only .badLine)
  else if s.duplicateWatch cell condition threshold then (s, .only .duplicate)
  else
    match s.emptyEntry with
    | some i => s.fillEntry i ⟨cell, condition, threshold, line, false⟩
    | none => (s, .only .tableFull)

/-- R141: SET WATCH. -/
def State.claimSetWatch (s : State) (params : List Byte) : State × Reply :=
  match params with
  | c :: k :: t4 :: t3 :: t2 :: t1 :: t0 :: l :: _ =>
    if s.controller.state = .unconfigured then (s, .only .state)
    else
      match cellOfByte c, conditionOfCode k, lineOfCode l with
      | some cell, some condition, some line =>
        s.setWatchChecked cell condition (join5 t4 t3 t2 t1 t0) line
      | _, _, _ => (s, .only .range)
  | _ => (s, .only .malformed)

/-- The entry a byte names (R143, R144). -/
def entryOfByte (b : Byte) : Option (Fin 16) :=
  if h : b.toNat < 16 then some ⟨b.toNat, h⟩ else none

/-- R143: CLEAR WATCH. -/
def State.claimClearWatch (s : State) (params : List Byte) : State × Reply :=
  match params with
  | b :: _ =>
    match entryOfByte b with
    | some i =>
      match s.watch.entries[i] with
      | some _ => (s.setEntry i none, .ok [])
      | none => (s, .only .notFound)
    | none =>
      if b = 255 then
        ({ s with watch := .ofEntries (Vector.replicate 16 none) }, .ok [])
      else (s, .only .range)
  | [] => (s, .only .malformed)

/-- R166: the nine reply fields of READ WATCH. -/
def Watch.fields (w : Watch) : List Byte :=
  [byteOf w.cell.val, byteOf (conditionCode w.condition)] ++ bytes5 w.threshold ++
    [byteOf (lineCode w.line), byteOfBool w.holds]

/-- R144: READ WATCH. -/
def State.claimReadWatch (s : State) (params : List Byte) : State × Reply :=
  match params with
  | b :: _ =>
    match entryOfByte b with
    | some i =>
      match s.watch.entries[i] with
      | some w => (s, .ok w.fields)
      | none => (s, .only .notFound)
    | none => (s, .only .range)
  | [] => (s, .only .malformed)

/-- R157: TAKE EVENT captures the oldest record. -/
def State.claimTakeEvent (s : State) : State × Reply :=
  match s.events with
  | e :: _ => (s, .ok e.bytes)
  | [] => (s, .only .empty)

/-- R166: the claim of a request with all its parameter bytes; an unknown code is answered MALFORMED and
has no effect (R165). -/
def State.claim (s : State) (code : Byte) (params : List Byte) : State × Reply :=
  match code.toNat with
  | 0x01 => s.claimStatus
  | 0x02 => s.claimConfigure params
  | 0x03 => s.claimStart
  | 0x04 => s.claimLeave
  | 0x05 => s.claimReset
  | 0x10 => s.claimPost params
  | 0x11 => s.claimCancel params
  | 0x12 => s.claimQueryPost params
  | 0x20 => s.claimReadCell params
  | 0x30 => s.claimSetWatch params
  | 0x31 => s.claimClearWatch params
  | 0x32 => s.claimReadWatch params
  | 0x40 => s.claimTakeEvent
  | _ => (s, .only .malformed)

/-! ### Select periods -/

/-- The select phase replaced. -/
def State.setPhase (s : State) (p : SelectPhase) : State :=
  { s with host := { s.host with phase := p } }

/-- R165: a request is taken: the claim is made, and its reply captured. -/
def State.takeRequest (s : State) (code : Byte) (params : List Byte) : State :=
  let done := s.claim code params
  done.1.setPhase (.reply code params done.2 0)

/-- R165: a known request is taken once its parameter bytes are complete; until then they are
gathered. -/
def State.gather (s : State) (code : Byte) (received : List Byte) : State :=
  let expected := (requestParameters code).getD 0
  if expected ≤ received.length then s.takeRequest code (received.take expected)
  else s.setPhase (.parameters code received)

/-- R163, R165: the host shifts a request code and the bytes behind it. In a select period that waits
for its code byte they are a request; while parameter bytes are being gathered they are more of those;
in every other phase (no select period, a void one, or a reply going out) they start nothing. -/
def State.shiftRequest (s : State) (code : Byte) (params : List Byte) : State :=
  match s.host.phase with
  | .code => s.gather code params
  | .parameters known received => s.gather known (received ++ code :: params)
  | .idle => s
  | .reply _ _ _ _ => s

/-- R164: the summary byte. -/
def State.summaryByte (s : State) : Byte :=
  byteOf (stateCode s.controller.state + (if s.atn then 8 else 0) + (if s.stale then 16 else 0))

/-- R163: the byte SDO sends in exchange `k` of the select period in progress; none (high impedance)
while CSn is high. A void period reads 0x00 (R176). -/
def State.sdoByte (s : State) (k : Nat) : Option Byte :=
  if s.host.csn then none
  else
    match s.host.phase with
    | .idle => some 0
    | .code => some (if k = 0 then s.host.summary else 0)
    | .parameters _ _ => some (if k = 0 then s.host.summary else 0)
    | .reply _ params r _ =>
      if k = 0 then some s.host.summary
      else if k ≤ params.length then some 0
      else some ((byteOf (resultCode r.result) :: r.fields).getD (k - params.length - 1) 0)

/-- SELECT_START (R163, R164, R176): CSn falls, a select period begins and the summary byte is captured;
with RESETn asserted the period is void. With CSn low already there is no fall. -/
def execSelectStart (s : State) : StepResult :=
  .next
    (if !s.host.csn then s
    else if s.resetn then
      { s with host := { s.host with csn := false, phase := .code, summary := s.summaryByte } }
    else { s with host := { s.host with csn := false, phase := .idle, summary := 0 } })

/-- The select period ends: CSn high, the phase idle, reset pending clear. -/
def State.endSelect (s : State) : State :=
  { s with host := { s.host with csn := true, phase := .idle, resetPending := false } }

/-- SELECT_END (R163, R165, R174): CSn rises; a request whose parameters are incomplete is discarded
with the phase, and a pending RESET takes effect. With CSn high already there is no rise. -/
def execSelectEnd (s : State) : StepResult :=
  .next
    (if s.host.csn then s
    else if s.host.resetPending then s.endSelect.requestReset
    else s.endSelect)

/-! ### The requests -/

/-- STATUS (R171, R172). -/
def execStatus (s : State) : StepResult := .next (s.shiftRequest 0x01 [])

/-- CONFIGURE (R168, R169). -/
def execConfigure (params : List Byte) (s : State) : StepResult :=
  .next (s.shiftRequest 0x02 params)

/-- START (R102). -/
def execStart (s : State) : StepResult := .next (s.shiftRequest 0x03 [])

/-- LEAVE (R112 to R114). -/
def execLeave (s : State) : StepResult := .next (s.shiftRequest 0x04 [])

/-- RESET (R174). -/
def execReset (s : State) : StepResult := .next (s.shiftRequest 0x05 [])

/-- POST (R85). -/
def execPost (params : List Byte) (s : State) : StepResult := .next (s.shiftRequest 0x10 params)

/-- CANCEL (R87). -/
def execCancel (params : List Byte) (s : State) : StepResult := .next (s.shiftRequest 0x11 params)

/-- QUERY POST (R89). -/
def execQueryPost (params : List Byte) (s : State) : StepResult :=
  .next (s.shiftRequest 0x12 params)

/-- READ CELL (R173). -/
def execReadCell (params : List Byte) (s : State) : StepResult :=
  .next (s.shiftRequest 0x20 params)

/-- SET WATCH (R141, R142). -/
def execSetWatch (params : List Byte) (s : State) : StepResult :=
  .next (s.shiftRequest 0x30 params)

/-- CLEAR WATCH (R143). -/
def execClearWatch (params : List Byte) (s : State) : StepResult :=
  .next (s.shiftRequest 0x31 params)

/-- READ WATCH (R144). -/
def execReadWatch (params : List Byte) (s : State) : StepResult :=
  .next (s.shiftRequest 0x32 params)

/-- TAKE EVENT (R157). -/
def execTakeEvent (s : State) : StepResult := .next (s.shiftRequest 0x40 [])

/-- MALFORMED (R165): a request code that is not in the table. -/
def execMalformed (code : Byte) (s : State) : StepResult := .next (s.shiftRequest code [])

/-! ### The two ends of a reply -/

/-- R172: a latch that was set in the captured byte and whose capture mark is clear is cleared. -/
def Latches.clearedBy (latches marks : Latches) (captured : Byte) : Latches :=
  ⟨latches.viewChanged && !(captured.getLsbD 0 && !marks.viewChanged),
    latches.excluded && !(captured.getLsbD 1 && !marks.excluded),
    latches.foreign && !(captured.getLsbD 2 && !marks.foreign)⟩

/-- LATCH_CLEAR (R172): the STATUS latch byte has been shifted out completely. Without a STATUS reply
whose latch byte is still to come there is no such instant. -/
def execLatchClear (s : State) : StepResult :=
  .next
    (match s.host.phase with
    | .reply code params r shifted =>
      if code = 0x01 ∧ shifted < 16 then
        { s with host := { s.host with
            phase := .reply code params r 16
            latches := s.host.latches.clearedBy s.host.marks (r.fields.getD 14 0) } }
      else s
    | .idle => s
    | .code => s
    | .parameters _ _ => s)

/-- EVENT_REMOVAL (R157): the last byte of a TAKE EVENT record has been clocked out, and the captured
record leaves the head of the queue. Without a record still to be clocked out there is no such
instant. -/
def execEventRemoval (s : State) : StepResult :=
  .next
    (match s.host.phase with
    | .reply code params r shifted =>
      if code = 0x40 ∧ r.result = .ok ∧ shifted < 15 then
        { s with
          events := s.events.tail
          host := { s.host with phase := .reply code params r 15 } }
      else s
    | .idle => s
    | .code => s
    | .parameters _ _ => s)

end Sys2Proof.Machine
end

