-- ==== Sys2Proof/Machine/Dispatch.lean ====
section
/-! DEFINITION. Machine/Dispatch: one arm for each command, each one call of its meaning. -/

namespace Sys2Proof.Machine

def exec (i : Instr) (s : State) : Host.Outcome State Fault Refusal :=
  match i with
  | .powerOn => Sys2Proof.Machine.execPowerOn s
  | .resetnAssert => Sys2Proof.Machine.execResetnAssert s
  | .resetnRelease => Sys2Proof.Machine.execResetnRelease s
  | .selectStart => Sys2Proof.Machine.execSelectStart s
  | .selectEnd => Sys2Proof.Machine.execSelectEnd s
  | .status => Sys2Proof.Machine.execStatus s
  | .latchClear => Sys2Proof.Machine.execLatchClear s
  | .configure params => Sys2Proof.Machine.execConfigure params s
  | .start => Sys2Proof.Machine.execStart s
  | .leave => Sys2Proof.Machine.execLeave s
  | .reset => Sys2Proof.Machine.execReset s
  | .post params => Sys2Proof.Machine.execPost params s
  | .cancel params => Sys2Proof.Machine.execCancel params s
  | .queryPost params => Sys2Proof.Machine.execQueryPost params s
  | .readCell params => Sys2Proof.Machine.execReadCell params s
  | .setWatch params => Sys2Proof.Machine.execSetWatch params s
  | .clearWatch params => Sys2Proof.Machine.execClearWatch params s
  | .readWatch params => Sys2Proof.Machine.execReadWatch params s
  | .takeEvent => Sys2Proof.Machine.execTakeEvent s
  | .eventRemoval => Sys2Proof.Machine.execEventRemoval s
  | .malformed code => Sys2Proof.Machine.execMalformed code s
  | .busActivity gap fall => Sys2Proof.Machine.execBusActivity gap fall s
  | .runEnd gap => Sys2Proof.Machine.execRunEnd gap s
  | .slotEnd => Sys2Proof.Machine.execSlotEnd s
  | .ownTransmissionStart => Sys2Proof.Machine.execOwnTransmissionStart s
  | .transmissionEnd => Sys2Proof.Machine.execTransmissionEnd s
  | .listenTimerExpiry => Sys2Proof.Machine.execListenTimerExpiry s

end Sys2Proof.Machine
end

