-- ==== Sys2Proof/Machine/Step.lean ====
section
/-! DEFINITION. Machine/Step: a step of the station: the command at the front of the queue, or a tick of
its own clock when none waits. -/

namespace Sys2Proof.Machine

/-- One step. With a command at the front of the queue: exec of it on the state with the queue's rest.
With an empty queue: a tick (assumption 2). -/
def step (s : State) : Host.Outcome State Fault Refusal :=
  match s.pending with
  | [] => .next s.tick
  | c :: rest => exec c { s with pending := rest }

/-- The state with the command a word spells at the front of its queue; no row of the table gives bits,
so no word spells one and the state is unchanged (assumption 1). -/
def State.withFetchWord (s : State) (nbits w : Nat) : State :=
  match decodeTableWord nbits w with
  | some c => { s with pending := c :: s.pending }
  | none => s

end Sys2Proof.Machine
end

