-- ==== Sys2Proof/Safety.lean ====
section
/-! DEFINITION. Safety: the laws the manual states of the station at every instant, as predicates of a
state, one for each block (a safe run is one whose states are all lawful), and the terms the statements
about commands are written in. -/

namespace Sys2Proof.Machine

/-- R168, 00_scope 1.5: the configuration lies in its ranges. -/
def Configuration.InRange (c : Configuration) : Prop :=
  2 ≤ c.count ∧ c.count ≤ 16 ∧ c.station < c.count ∧ c.rateCode ≤ 3 ∧ 16 ≤ c.slotCode ∧
    c.slotCode ≤ 64

/-- R2, R49, R101, R168, R176: a configuration held is in range, the config tag is computed from it, and
the station holds none exactly while it is UNCONFIGURED, where the cells hold their initial values. -/
def State.ConfigLaw (s : State) : Prop :=
  match s.config with
  | none =>
    s.frameCheck.tag = none ∧ s.controller.state = .unconfigured ∧
      s.cells = Vector.replicate 32 Cell.initial
  | some c =>
    c.InRange ∧ s.frameCheck.tag = some (configTagOf c) ∧ s.controller.state ≠ .unconfigured

/-- R154: never more than 32 records, and with 32 the newest is an EVENTS_LOST record. -/
def State.EventLaw (s : State) : Prop :=
  s.events.length ≤ 32 ∧
    (s.events.length = 32 → s.events.getLast?.map EventRecord.kind = some .eventsLost)

/-- R115: the failure count lies between 0 and 8, and it is 8 exactly when the station is HALTED. -/
def State.FailureLaw (s : State) : Prop :=
  s.controller.failures ≤ 8 ∧ (s.controller.failures = 8 ↔ s.controller.state = .halted)

/-- R58: in MEMBER the view holds the own station number; in every other state it is empty. -/
def State.ViewLaw (s : State) : Prop :=
  if s.controller.state = .member then stationIn s.agreement.view s.stationNumber = true
  else s.agreement.view = 0

/-- The number of other stations' slots that have ended since the last own slot start, while the
station is synchronised: 0 in the own slot and in the slot after it. -/
def State.slotsSinceOwn (s : State) : Nat :=
  (s.bus.slot + s.stationCount - s.stationNumber) % s.stationCount - 1

/-- R57, R74, R79: outside MEMBER both counts are 0; in MEMBER each of the slots that have ended since
the last own slot start has added at most 1 to one of them. -/
def State.CountLaw (s : State) : Prop :=
  if s.controller.state = .member then s.agreement.agree + s.agreement.dissent ≤ s.slotsSinceOwn
  else s.agreement.agree = 0 ∧ s.agreement.dissent = 0

/-- Whether a FAREWELL frame stands in the transmit buffer (R55). -/
def State.sendsFarewell (s : State) : Bool :=
  match readFrame s.frameCheck.transmit with
  | some (.tally f) => f.farewell
  | some (.join _) => false
  | none => false

/-- R82: at most 16 posts with distinct tags, the SENT ones oldest and at most 4, none outside MEMBER;
and none while a FAREWELL stands in the transmit buffer (R95). -/
def State.PostLaw (s : State) : Prop :=
  s.posts.posts.length ≤ 16 ∧ (s.posts.posts.map Post.tag).Nodup ∧
    s.posts.posts = s.posts.sentPosts ++ s.posts.queuedPosts ∧ s.posts.sentPosts.length ≤ 4 ∧
    (s.controller.state ≠ .member → s.posts.sentPosts = []) ∧
    (s.sendsFarewell = true → s.posts.sentPosts = [])

/-- R27, R28: the slot number is a station number, below N while synchronised; the schedule is kept in
JOINING, RECEIVING and MEMBER and only in active states. -/
def State.ScheduleLaw (s : State) : Prop :=
  s.bus.slot < 16 ∧ (s.bus.sync = true → s.bus.slot < s.stationCount) ∧
    (s.bus.sync = true → s.controller.state.active = true) ∧
    (s.controller.state = .joining ∨ s.controller.state = .receiving ∨
      s.controller.state = .member → s.bus.sync = true)

/-- R26, R42, R116: in the passive states nothing is received or sent, both buffers are empty, and the
listen timer, the wait count and the join timer are at 0. -/
def State.QuietLaw (s : State) : Prop :=
  s.controller.state.active = false →
    s.bus.run = none ∧ s.bus.tx = .idle ∧ s.frameCheck.receive = [] ∧
      s.frameCheck.transmit = [] ∧ s.controller.listenTimer = 0 ∧ s.controller.waitCount = 0 ∧
      s.controller.joinTimer = 0

/-- R37, R99, R103, R106, R108: the listen timer runs in LISTEN only, where it is never more than the
time RXD has been high without a break (so 0 while RXD is low), and the join timer in JOINING only (that
both are kept at 0 elsewhere is R103 for the one, assumption 26 for the other in RECEIVING); the join
timer never passes 8 and the wait count never passes N. -/
def State.TimerLaw (s : State) : Prop :=
  (s.controller.state = .listen → s.controller.listenTimer ≤ s.rxd.highAfter 0) ∧
  (s.controller.state ≠ .listen → s.controller.listenTimer = 0) ∧
    (s.controller.state ≠ .joining → s.controller.joinTimer = 0) ∧
    s.controller.joinTimer ≤ 8 ∧ s.controller.waitCount ≤ s.stationCount

/-- R112 to R114: a LEAVE waits for the own-slot evaluation in MEMBER, or for the end of the own JOIN
on the line in JOINING and RECEIVING. -/
def State.LeaveLaw (s : State) : Prop :=
  (s.controller.pendingLeave = true → s.controller.state = .member) ∧
    (s.controller.leaveAtTxEnd = true →
      (s.controller.state = .joining ∨ s.controller.state = .receiving) ∧ s.bus.tx = .sending)

/-- Whether a frame may be sent by the station as it stands (R43, R49, R55): its own number, round and
config tag, a TALLY frame in MEMBER and a JOIN frame in JOINING and RECEIVING. -/
def State.ownFrame (s : State) (f : Frame) : Bool :=
  f.sender = s.stationNumber && f.round = s.bus.round && f.tag = s.configTag &&
    (match f with
      | .tally _ => s.controller.state = .member
      | .join _ => s.controller.state = .joining || s.controller.state = .receiving)

/-- R34, R54, R55: a frame stands in the transmit buffer exactly while one is supplied, and that is a
sound frame of the station itself, in its own slot, never a JOIN frame in MEMBER nor a TALLY frame
outside it; and the loopback capture holds at most 93 characters (R35). -/
def State.SendLaw (s : State) : Prop :=
  s.bus.loopback.length ≤ 93 ∧
  (s.bus.tx = .idle ↔ s.frameCheck.transmit = []) ∧
    (s.bus.tx ≠ .idle → s.bus.sync = true ∧ s.bus.slot = s.stationNumber ∧
      (readFrame s.frameCheck.transmit).map s.ownFrame = some true)

/-- R121: the join queue holds at most 15 stations without duplicates, never the station itself or one
of its view, and it is empty outside MEMBER. -/
def State.JoinLaw (s : State) : Prop :=
  s.transfer.joinQueue.length ≤ 15 ∧ s.transfer.joinQueue.Nodup ∧
    (∀ n ∈ s.transfer.joinQueue, n < 16 ∧ n ≠ s.stationNumber ∧
      stationIn s.agreement.view n = false) ∧
    (s.controller.state ≠ .member → s.transfer.joinQueue = [])

/-- R120, R124: a joiner is served only in MEMBER, by the lowest-numbered station of its view; it is
another station, outside the view, and its next index is one of 0, 4, … , 28. -/
def State.ServingLaw (s : State) : Prop :=
  match s.transfer.serving with
  | none => True
  | some sv =>
    s.controller.state = .member ∧ noneBelow s.agreement.view s.stationNumber = true ∧
      sv.joiner < 16 ∧ sv.joiner ≠ s.stationNumber ∧
      stationIn s.agreement.view sv.joiner = false ∧ sv.next % 4 = 0 ∧ sv.next ≤ 28

/-- R120: the receiving record exists in RECEIVING, and only there, with a next expected index among
4, 8, … , 28 (0 and complete last no longer than the slot end that sets them, R130, R133). -/
def State.ReceivingLaw (s : State) : Prop :=
  match s.transfer.receiving with
  | none => s.controller.state ≠ .receiving
  | some r => s.controller.state = .receiving ∧ r.next % 4 = 0 ∧ 4 ≤ r.next ∧ r.next ≤ 28

/-- R138: whether two entries hold equal watches. -/
def equalWatches (a b : Option Watch) : Bool :=
  match a, b with
  | some v, some w => v.cell = w.cell && v.condition = w.condition && v.threshold = w.threshold
  | _, _ => false

/-- R137, R141: an entry's threshold is 0 for CHANGE and FLAGGED, and a CHANGE entry is CLEAR and drives
no line. -/
def soundEntry (entry : Option Watch) : Bool :=
  match entry with
  | some w =>
    w.threshold = storedThreshold w.condition w.threshold &&
      (w.condition ≠ .change || (!w.holds && w.line = none))
  | none => true

/-- R137, R138, R140: no two entries are equal watches, every entry is sound, and each line is asserted
exactly when an entry assigned to it HOLDS. -/
def State.WatchLaw (s : State) : Prop :=
  (∀ i j : Fin 16, equalWatches s.watch.entries[i] s.watch.entries[j] = true → i = j) ∧
    (∀ i : Fin 16, soundEntry s.watch.entries[i] = true) ∧
    (∀ l : Fin 4, s.watch.lines[l] = true ↔
      ∃ i : Fin 16, entryDrives l s.watch.entries[i] = true)

/-- R163, R174, R176: with CSn high the select phase is idle and no reset is pending; while RESETn is
asserted the station is UNCONFIGURED and the phase idle. -/
def State.PortLaw (s : State) : Prop :=
  (s.host.csn = true → s.host.phase = .idle ∧ s.host.resetPending = false) ∧
    (s.resetn = false → s.controller.state = .unconfigured ∧ s.host.phase = .idle)

/-- A lawful state: every law of the manual at once. -/
structure State.Lawful (s : State) : Prop where
  config : s.ConfigLaw
  event : s.EventLaw
  failure : s.FailureLaw
  view : s.ViewLaw
  count : s.CountLaw
  post : s.PostLaw
  schedule : s.ScheduleLaw
  quiet : s.QuietLaw
  timer : s.TimerLaw
  leave : s.LeaveLaw
  send : s.SendLaw
  join : s.JoinLaw
  serving : s.ServingLaw
  receiving : s.ReceivingLaw
  watch : s.WatchLaw
  port : s.PortLaw

/-! ### Terms of the statements -/

/-- R163: the code byte and the parameter bytes a host-port request carries; none for a command that is
no request. -/
def requestOf (i : Instr) : Option (Byte × List Byte) :=
  match i with
  | .status => some (0x01, [])
  | .configure params => some (0x02, params)
  | .start => some (0x03, [])
  | .leave => some (0x04, [])
  | .reset => some (0x05, [])
  | .post params => some (0x10, params)
  | .cancel params => some (0x11, params)
  | .queryPost params => some (0x12, params)
  | .readCell params => some (0x20, params)
  | .setWatch params => some (0x30, params)
  | .clearWatch params => some (0x31, params)
  | .readWatch params => some (0x32, params)
  | .takeEvent => some (0x40, [])
  | .malformed code => some (code, [])
  | .powerOn => none
  | .resetnAssert => none
  | .resetnRelease => none
  | .selectStart => none
  | .selectEnd => none
  | .latchClear => none
  | .eventRemoval => none
  | .busActivity _ _ => none
  | .runEnd _ => none
  | .slotEnd => none
  | .ownTransmissionStart => none
  | .transmissionEnd => none
  | .listenTimerExpiry => none

/-- The commands of the bus side (R24 to R40, R103). -/
def onBusSide (i : Instr) : Bool :=
  match i with
  | .busActivity _ _ => true
  | .runEnd _ => true
  | .slotEnd => true
  | .ownTransmissionStart => true
  | .transmissionEnd => true
  | .listenTimerExpiry => true
  | .powerOn => false
  | .resetnAssert => false
  | .resetnRelease => false
  | .selectStart => false
  | .selectEnd => false
  | .status => false
  | .latchClear => false
  | .configure _ => false
  | .start => false
  | .leave => false
  | .reset => false
  | .post _ => false
  | .cancel _ => false
  | .queryPost _ => false
  | .readCell _ => false
  | .setWatch _ => false
  | .clearWatch _ => false
  | .readWatch _ => false
  | .takeEvent => false
  | .eventRemoval => false
  | .malformed _ => false

/-- Commands carried out one after another. -/
def execAll : List Instr → State → StepResult
  | [], s => .next s
  | i :: rest, s =>
    match exec i s with
    | .next t => execAll rest t
    | .fault r => .fault r
    | .refused r => .refused r

/-- R165: a station in a select period that waits for its code byte. -/
def State.awaitsCode (s : State) : Prop := s.host.phase = .code

/-- R165, R166: the state with the reply to a request captured, none of it shifted out yet. -/
def State.answering (s : State) (code : Byte) (params : List Byte) (result : ResultCode)
    (fields : List Byte) : State :=
  { s with host := { s.host with phase := .reply code params ⟨result, fields⟩ 0 } }

/-- R100, R153: the STATE_CHANGED record of a station. -/
def stateChanged (round : Round) (slot station : Nat) (cause : ChangeCause) (new : StationState)
    (failures : Nat) : EventRecord :=
  ⟨.stateChanged, round, byteOf slot, byteOf station, 0, byteOf (causeCode cause),
    byteOf (stateCode new), 0, byteOf failures⟩

/-- R27: the line at the slot's end: the time until then has passed on it. -/
def State.rxdAtSlotEnd (s : State) : Rxd := s.rxd.later (s.timeToReading s.slotSixteenths)

/-- R27, R30, R62: the slot ends with a verdict: synchronised, no own frame still on the line, either no
run in progress or one that lasts past the boundary, and the slot timer not yet past L. -/
def State.SlotEndsWith (s : State) (v : Verdict) : Prop :=
  s.bus.sync = true ∧ s.bus.tx ≠ .sending ∧
    (s.bus.run = none ∨ s.rxdAtSlotEnd.endsRun = false) ∧
    s.bus.slotTimer ≤ (s.slotSixteenths : Int) ∧ s.slotVerdict = v

/-- R30: the run in progress as it stands at the start of the next slot: followed only for its end. -/
def State.carriedRun (s : State) : Option Run :=
  s.bus.run.map fun r =>
    { r with isFrame := false, age := r.age + s.timeToReading s.slotSixteenths }

/-- R27, R30, R32, R42, R56: the same station at the start of the next slot, a run in progress carried
over, its timer corrected by `d` sixteenths of a bit time. -/
def State.inNextSlot (s : State) (d : Int) : State :=
  { s with
    bus := ⟨true, -d, s.nextSlot, s.nextRound, .silent, false, s.bus.run.isSome, s.carriedRun, [],
      .idle⟩
    frameCheck := ⟨[], [], s.frameCheck.tag, none⟩
    rxd := s.rxdAtSlotEnd }

/-- R32: the correction of a slot whose frame began in the window. -/
def State.correction (s : State) : Int :=
  match s.bus.start with
  | .inWindow offset => offset - 512
  | .silent => 0
  | .early => 0
  | .late => 0

/-- R58, R170, R172: the VIEW_CHANGED latch set, with its capture mark while a report is on its way. -/
def State.withViewChanged (s : State) : State :=
  { s with host := { s.host with
      latches := { s.host.latches with viewChanged := true }
      marks := { s.host.marks with
        viewChanged := s.host.marks.viewChanged || s.statusOutstanding } } }

/-- R66 to R69: the owner of the slot removed from the view with VIEW_CHANGED, and PEER_DROPPED queued
with a reason and a BAD reason. -/
def State.withoutOwner (s : State) (reason badReason : Nat) : State :=
  { s.withViewChanged with
    agreement := { s.agreement with view := stationRemove s.agreement.view s.bus.slot }
    events := arrive s.events
      ⟨.peerDropped, s.bus.round, byteOf s.bus.slot, byteOf s.bus.slot, 0, 0, byteOf reason, 0,
        byteOf badReason⟩ }

/-- R74: one more frame counted against the station's picture. -/
def State.dissenting (s : State) : State :=
  { s with agreement := { s.agreement with dissent := s.agreement.dissent + 1 } }

/-- R10 to R21: the table after a list of contributions, in list order. -/
def contributed (s : State) (cells : Vector Cell 32) (list : List Contribution) : Vector Cell 32 :=
  list.foldl (fun table c =>
    table.set c.cell
      (table[c.cell].contribute (s.cellMode c.cell) (s.cellPolicy c.cell) c.kind c.operand).1) cells

/-- R59: the digest after a list of contributions of an origin station. -/
def digested (digest : Digest) (origin : Nat) (list : List Contribution) : Digest :=
  list.foldl (fun d c => advanceDigest d origin c) digest

/-- R155: the event queue after the arrival of a list of events. -/
def arrived (q : List EventRecord) (list : List EventRecord) : List EventRecord :=
  list.foldl arrive q

/-- R139, R145, R149: the records of a re-evaluation of the table against a list of cells: one for each
level entry whose stored state differs from its test, in order of entry index. -/
def State.retested (s : State) (round : Round) (slot : Nat) (cells : Vector Cell 32) :
    List EventRecord :=
  watchEntries.filterMap fun i =>
    match s.watch.entries[i] with
    | none => none
    | some w =>
      if w.condition = .change ∨
          conditionHolds (s.cellMode w.cell) w.condition w.threshold cells[w.cell] = w.holds then
        none
      else
        some ⟨if w.holds then .watchOff else .watchOn, round, byteOf slot, 0, byteOf w.cell.val,
          byteOf i.val, 0, cells[w.cell].value, flagsByte cells[w.cell].flags⟩

/-- R92, R153: the POST_SETTLED records of the SENT posts with results, in the own slot. -/
def State.settledRecords (s : State) : List EventRecord :=
  (s.posts.posts.filter fun p => !p.queued).map fun p =>
    match p.status with
    | .sent _ (some r) =>
      ⟨.postSettled, s.bus.round, byteOf s.stationNumber, byteOf s.stationNumber,
        byteOf p.cell.val, p.tag, byteOf (outcomeCode r.outcome), r.value, flagsByte r.flags⟩
    | .sent _ none => s.blankEvent .postSettled
    | .queued => s.blankEvent .postSettled

/-- R64, R77, R123, R124: the Transfer Unit after the ADMIT of a joiner: the joiner out of the join
queue; when it was no member yet, a service of it, or by a station now no longer the lowest, has
ended. -/
def State.transferAfterAdmit (s : State) (joiner : Nat) : Transfer :=
  { s.transfer with
    joinQueue := s.transfer.joinQueue.filter (· ≠ joiner)
    serving := s.transfer.serving.filter fun sv =>
      stationIn s.agreement.view joiner ||
        !(decide (joiner < s.stationNumber) || decide (sv.joiner = joiner)) }

/-- R94, R156: the events a queue stands for: its records, and in an EVENTS_LOST record its count. -/
def accountedFor (q : List EventRecord) : Nat :=
  (q.map fun e => if e.kind = .eventsLost then e.value.toNat else 1).sum

/-- R44, R45, R47, R52: a frame a station may build: its fields within their ranges, and the marks as
R52 allows them together. -/
def Frame.WellFormed (f : Frame) : Prop :=
  match f with
  | .join j =>
    j.sender < 16 ∧
      (match j.expect with
        | some e => e % 4 = 0 ∧ e ≤ 28
        | none => True)
  | .tally t =>
    t.sender < 16 ∧ t.contributions.length ≤ 4 ∧
      (t.farewell = true → t.contributions = [] ∧ t.transfer = none) ∧
      (match t.transfer with
        | some x => x.joiner < 16 ∧ x.joiner ≠ t.sender ∧ x.first % 4 = 0 ∧ x.first ≤ 28
        | none => True)

/-- R50: the length of a frame in bytes. -/
def Frame.length (f : Frame) : Nat :=
  match f with
  | .join _ => 7
  | .tally t => (if t.transfer.isSome then 65 else 11) + 7 * t.contributions.length

end Sys2Proof.Machine
end

