-- ==== Sys2Proof/Certificates/Slice0/Obligations.lean ====
section
/-! DEFINITION. Certificates/Slice0/Obligations: the statements about the station for the provers. They
come from the numbered rules of the manual; each docstring names its rules. -/

open Sys2Proof Sys2Proof.Machine

/-! ### Steps -/

/-- With a command at the front of the queue, a step is exec of it on the state with the queue's rest;
with an empty queue it is a tick, which is the model's choice (assumption 2). -/
def Obligations.StepRunsFrontCommand : Prop :=
  ∀ (c : Instr) (rest : List Instr) (s : State),
    (s.pending = c :: rest → step s = exec c { s with pending := rest }) ∧
      (s.pending = [] → step s = .next s.tick)

/-- Every command completes in every state, and none of them touches the queue of waiting commands. No
rule of the manual says either: that a command whose instant cannot come has no effect instead of
stopping the station (assumption 3), and that the queue is the model's own and no command, resets
included, reaches it (assumptions 2 and 7), are the model's choices. -/
def Obligations.EveryCommandCompletes : Prop :=
  ∀ (i : Instr) (s : State), ∃ t, exec i s = .next t ∧ t.pending = s.pending

/-! ### Resets and select periods -/

/-- The state after power-on meets every law of the station. -/
def Obligations.ResetIsLawful : Prop := State.reset.Lawful

/-- R176 with R3, R41, R42, R57, R97, R99, R120, R137, R160, R162: what power-on and the assertion of
RESETn leave, and the release. That the levels of CSn, RESETn and RXD and the waiting commands stay is
the model's choice (assumption 7), and so are the figures 0 of the stopped slot timer and of the summary
byte, which no rule gives (assumption 11). -/
def Obligations.HardResetsLeaveResetValues : Prop :=
  ∀ (s : State),
    exec .powerOn s = .next
      { config := none
        bus := ⟨false, 0, 0, 0, .silent, false, false, none, [], .idle⟩
        frameCheck := ⟨[], [], none, none⟩
        agreement := ⟨0, 0, 0, 0, 0⟩
        cells := Vector.replicate 32 ⟨0, 0, ⟨false, false, false⟩, 0⟩
        posts := ⟨[], 0⟩
        controller := ⟨.unconfigured, 0, 0, 0, 0, false, false⟩
        transfer := ⟨[], none, none⟩
        watch := ⟨Vector.replicate 16 none, Vector.replicate 4 false⟩
        events := []
        host := ⟨s.host.csn, 0, .idle, false, ⟨false, false, false⟩, ⟨false, false, false⟩⟩
        resetn := s.resetn
        rxd := s.rxd
        pending := s.pending } ∧
    exec .resetnAssert s = .next
      { config := none
        bus := ⟨false, 0, 0, 0, .silent, false, false, none, [], .idle⟩
        frameCheck := ⟨[], [], none, none⟩
        agreement := ⟨0, 0, 0, 0, 0⟩
        cells := Vector.replicate 32 ⟨0, 0, ⟨false, false, false⟩, 0⟩
        posts := ⟨[], 0⟩
        controller := ⟨.unconfigured, 0, 0, 0, 0, false, false⟩
        transfer := ⟨[], none, none⟩
        watch := ⟨Vector.replicate 16 none, Vector.replicate 4 false⟩
        events := []
        host := ⟨s.host.csn, 0, .idle, false, ⟨false, false, false⟩, ⟨false, false, false⟩⟩
        resetn := false
        rxd := s.rxd
        pending := s.pending } ∧
    exec .resetnRelease s = .next { s with resetn := true }

/-- R164, R176: SELECT_START captures the summary byte and waits for the code byte; with RESETn asserted
the select period is void; with CSn low already nothing happens (assumption 3). -/
def Obligations.SelectStartCapturesSummary : Prop :=
  ∀ (s : State),
    (s.host.csn = true → s.resetn = true →
      ∃ t, exec .selectStart s = .next t ∧
        t = { s with host := { s.host with
          csn := false, phase := .code, summary := t.host.summary } } ∧
        t.host.summary.extractLsb' 0 3 = BitVec.ofNat 3 (stateCode s.controller.state) ∧
        t.host.summary.getLsbD 3 = !s.events.isEmpty ∧
        t.host.summary.getLsbD 4 = decide (s.controller.state ≠ .member) ∧
        t.host.summary.extractLsb' 5 3 = 0 ∧
        t.sdoByte 0 = some t.host.summary) ∧
    (s.host.csn = true → s.resetn = false →
      exec .selectStart s = .next { s with host := { s.host with
        csn := false, phase := .idle, summary := 0 } }) ∧
    (s.host.csn = false → exec .selectStart s = .next s)

/-- R163, R174, R175: RESET is answered OK in every state and only sets reset pending; SELECT_END ends
the select period; with a RESET request taken in it, every block
takes its reset values, the configuration and the config tag are kept, and STATE_CHANGED(RESET_REQUEST)
is the only event. With CSn high already nothing happens: the model's choice (assumption 3), as are the
figures 0 of the stopped slot timer and of the summary byte (assumption 11) and the level of RXD that
stays (assumption 7). -/
def Obligations.ResetTakesEffectAtSelectEnd : Prop :=
  ∀ (s : State),
    (s.awaitsCode →
      exec .reset s =
        .next ({ s with host := { s.host with resetPending := true } }.answering 0x05 [] .ok [])) ∧
    (s.host.csn = false → s.host.resetPending = false →
      exec .selectEnd s = .next { s with host := { s.host with csn := true, phase := .idle } }) ∧
    (s.host.csn = false → s.host.resetPending = true →
      exec .selectEnd s = .next
        { config := s.config
          bus := ⟨false, 0, 0, 0, .silent, false, false, none, [], .idle⟩
          frameCheck := ⟨[], [], s.frameCheck.tag, none⟩
          agreement := ⟨0, 0, 0, 0, 0⟩
          cells := Vector.replicate 32 ⟨0, 0, ⟨false, false, false⟩, 0⟩
          posts := ⟨[], 0⟩
          controller :=
            ⟨if s.controller.state = .unconfigured then .unconfigured else .ready, 0, 0, 0, 0,
              false, false⟩
          transfer := ⟨[], none, none⟩
          watch := ⟨Vector.replicate 16 none, Vector.replicate 4 false⟩
          events := [stateChanged 0 0 s.stationNumber .resetRequest
            (if s.controller.state = .unconfigured then .unconfigured else .ready) 0]
          host := ⟨true, 0, .idle, false, ⟨false, false, false⟩, ⟨false, false, false⟩⟩
          resetn := s.resetn
          rxd := s.rxd
          pending := s.pending }) ∧
    (s.host.csn = true → exec .selectEnd s = .next s)

/-- R163, R176: outside a select period, in a void one, and while a reply is going out, no request
starts anything. -/
def Obligations.NoRequestOutsideItsPhase : Prop :=
  ∀ (i : Instr) (s : State) (code : Byte) (params : List Byte) (r : Reply) (n : Nat),
    requestOf i ≠ none →
    s.host.phase = .idle ∨ s.host.phase = .reply code params r n →
    exec i s = .next s

/-- R165: a known request whose parameter bytes are not complete when CSn rises is discarded: nothing
in the station has changed, and the select period is over. A request code that is not in the table is
answered MALFORMED and has no effect. That a request command carries the parameter bytes sent so far is
the model's choice (assumption 4). -/
def Obligations.DiscardedAndMalformedRequests : Prop :=
  ∀ (i : Instr) (s : State) (code : Byte) (params : List Byte) (p : Nat), s.awaitsCode →
    (s.host.csn = false → s.host.resetPending = false →
      requestOf i = some (code, params) → requestParameters code = some p → params.length < p →
      ∃ t, exec i s = .next t ∧
        exec .selectEnd t = .next { s with host := { s.host with csn := true, phase := .idle } }) ∧
    (requestParameters code = none →
      exec (.malformed code) s = .next (s.answering code [] .malformed []))

/-- R163: what SDO sends in each byte exchange of a select period with a taken request: the summary
byte, 0x00 for each parameter byte, the result byte, the reply fields, then 0x00. -/
def Obligations.ReplyShiftsOut : Prop :=
  ∀ (s : State) (code : Byte) (params : List Byte) (r : Reply) (n k : Nat),
    s.host.csn = false → s.host.phase = .reply code params r n →
    s.sdoByte 0 = some s.host.summary ∧
      (1 ≤ k → k ≤ params.length → s.sdoByte k = some 0) ∧
      s.sdoByte (params.length + 1) = some (byteOf (resultCode r.result)) ∧
      s.sdoByte (params.length + 2 + k) = some (r.fields.getD k 0)

/-! ### Requests -/

/-- R166, R170 to R172: STATUS reports the fifteen figures and changes nothing but the capture marks of
the latches it reports. When its latch byte is clocked out the reported latches are cleared; a latch
set again while the report is on its way stays set, and a report cut short clears none. That
LATCH_CLEAR has no effect once the select period is over is the model's choice (assumption 3); when a
capture mark is set is deduced (assumption 16). -/
def Obligations.StatusReportsAndClears : Prop :=
  ∀ (s : State), s.awaitsCode →
    exec .status s = .next
      ({ s with host := { s.host with marks :=
          ⟨s.host.marks.viewChanged && !s.host.latches.viewChanged,
            s.host.marks.excluded && !s.host.latches.excluded,
            s.host.marks.foreign && !s.host.latches.foreign⟩ } }.answering 0x01 [] .ok
        [byteOf (stateCode s.controller.state), byteOf s.controller.failures,
          s.bus.round.extractLsb' 8 8, s.bus.round.extractLsb' 0 8, byteOf s.bus.slot,
          s.agreement.view.extractLsb' 8 8, s.agreement.view.extractLsb' 0 8,
          byteOf s.agreement.agree, byteOf s.agreement.dissent,
          byteOf (s.posts.posts.filter fun (p : Post) => p.status = PostStatus.queued).length,
          byteOf (s.posts.posts.filter fun (p : Post) => p.status ≠ PostStatus.queued).length,
          byteOf s.events.length, byteOf s.transfer.joinQueue.length,
          (match s.transfer.serving with
            | some sv => byteOf sv.joiner
            | none => 255),
          BitVec.ofNat 8 (s.host.latches.viewChanged.toNat + 2 * s.host.latches.excluded.toNat +
            4 * s.host.latches.foreign.toNat)]) ∧
    ∃ t, exec .status s = .next t ∧
      (∃ u, exec .latchClear t = .next u ∧
        u = { t with host := { t.host with phase := u.host.phase, latches := u.host.latches } } ∧
        u.host.latches = ⟨false, false, false⟩) ∧
      (∃ u, exec .latchClear t.latchViewChanged = .next u ∧
        u.host.latches = ⟨true, false, false⟩) ∧
      (∃ u, exec .latchClear t.latchExcluded = .next u ∧
        u.host.latches = ⟨false, true, false⟩) ∧
      (∃ u, exec .latchClear t.latchForeign = .next u ∧
        u.host.latches = ⟨false, false, true⟩) ∧
      (s.host.csn = false → s.host.resetPending = false →
        ∃ u v, exec .selectEnd t = .next u ∧ exec .latchClear u = .next v ∧
          v.host.latches = s.host.latches)

/-- R2, R49, R101, R168, R169: CONFIGURE is refused with STATE outside UNCONFIGURED and READY, and with
RANGE when a figure is out of range, changing nothing; an accepted one replaces the configuration record,
gives every cell its mode, its policy and its initial values, sets the config tag and moves an
UNCONFIGURED station to READY; everything else is kept. -/
def Obligations.ConfigureIsCheckedAndInstalled : Prop :=
  ∀ (s : State) (n c r l p0 p1 p2 p3 p4 p5 p6 p7 : Byte),
    s.awaitsCode →
    (s.controller.state ≠ .unconfigured ∧ s.controller.state ≠ .ready →
      exec (.configure [n, c, r, l, p0, p1, p2, p3, p4, p5, p6, p7]) s = .next
        (s.answering 0x02 [n, c, r, l, p0, p1, p2, p3, p4, p5, p6, p7] .state [])) ∧
    (s.controller.state = .unconfigured ∨ s.controller.state = .ready →
      ¬ (2 ≤ c.toNat ∧ c.toNat ≤ 16 ∧ n.toNat < c.toNat ∧ r.toNat ≤ 3 ∧ 16 ≤ l.toNat ∧
        l.toNat ≤ 64) →
      exec (.configure [n, c, r, l, p0, p1, p2, p3, p4, p5, p6, p7]) s = .next
        (s.answering 0x02 [n, c, r, l, p0, p1, p2, p3, p4, p5, p6, p7] .range [])) ∧
    (s.controller.state = .unconfigured ∨ s.controller.state = .ready →
      2 ≤ c.toNat → c.toNat ≤ 16 → n.toNat < c.toNat → r.toNat ≤ 3 → 16 ≤ l.toNat → l.toNat ≤ 64 →
      ∃ t, exec (.configure [n, c, r, l, p0, p1, p2, p3, p4, p5, p6, p7]) s = .next t ∧
        t.stationNumber = n.toNat ∧ t.stationCount = c.toNat ∧
        t.config.map Configuration.rateCode = some r.toNat ∧ t.slotLength = l.toNat * 64 ∧
        (∀ i : Fin 32,
          t.cellMode i =
            (if ([p0, p1, p2, p3, p4, p5, p6, p7].getD (i.val / 4) 0).getLsbD (2 * (i.val % 4))
              then .signed else .unsigned) ∧
          t.cellPolicy i =
            (if ([p0, p1, p2, p3, p4, p5, p6, p7].getD (i.val / 4) 0).getLsbD (2 * (i.val % 4) + 1)
              then .saturate else .wrap)) ∧
        t.cells = Vector.replicate 32 Cell.initial ∧
        t.frameCheck = { s.frameCheck with
          tag := some
            ((frameCrc [c, r, l, p0, p1, p2, p3, p4, p5, p6, p7]).extractLsb' 0 8) } ∧
        t.controller = { s.controller with state := .ready } ∧
        t.events = (if s.controller.state = .unconfigured then
            arrive s.events (stateChanged s.bus.round s.bus.slot n.toNat .configured .ready
              s.controller.failures)
          else s.events) ∧
        t.host = (s.answering 0x02 [n, c, r, l, p0, p1, p2, p3, p4, p5, p6, p7] .ok
          [(frameCrc [c, r, l, p0, p1, p2, p3, p4, p5, p6, p7]).extractLsb' 0 8]).host ∧
        t.bus = s.bus ∧ t.agreement = s.agreement ∧ t.posts = s.posts ∧ t.transfer = s.transfer ∧
        t.watch = s.watch ∧ t.resetn = s.resetn ∧ t.rxd = s.rxd ∧ t.pending = s.pending)

/-- R28, R102, R103: START in READY, STANDBY and HALTED enters LISTEN with the failure count, the timers
and the wait count at 0, the foreign-seen set empty and the sync flag clear; in the other states it is
refused with STATE and changes nothing. That the stopped slot timer and the stopped join timer read 0
are the model's choices (assumptions 11 and 26). -/
def Obligations.StartEntersListen : Prop :=
  ∀ (s : State), s.awaitsCode →
    (s.controller.state = .ready ∨ s.controller.state = .standby ∨
        s.controller.state = .halted →
      exec .start s = .next
        ({ s with
            bus := ⟨false, 0, s.bus.slot, s.bus.round, .silent, false, false, none, [], .idle⟩
            frameCheck := ⟨[], [], s.frameCheck.tag, none⟩
            agreement := { s.agreement with foreignSeen := 0 }
            controller := { s.controller with
              state := .listen, failures := 0, listenTimer := 0, waitCount := 0, joinTimer := 0 }
            events := arrive s.events
              (stateChanged s.bus.round s.bus.slot s.stationNumber .hostStart .listen 0)
          }.answering 0x03 [] .ok [])) ∧
    (¬ (s.controller.state = .ready ∨ s.controller.state = .standby ∨
        s.controller.state = .halted) →
      exec .start s = .next (s.answering 0x03 [] .state []))

/-- R112, R114: LEAVE by the state in which it is taken: pending-leave in MEMBER; STANDBY at once in
LISTEN, and in JOINING and RECEIVING unless the own JOIN is on the line, when the move is taken at its
end; STATE in the passive states. That the stopped slot timer reads 0 is the model's choice
(assumption 11), and so is that TRANSMISSION_END passes the time to its own instant (assumption 5), and
that a JOIN supplied at the own slot start counts as on the line from offset 32 only (assumption 31). -/
def Obligations.LeaveByState : Prop :=
  ∀ (s : State), s.awaitsCode →
    (s.controller.state = .member →
      exec .leave s = .next
        ({ s with controller := { s.controller with pendingLeave := true } }.answering 0x04 [] .ok
          [])) ∧
    (s.controller.state = .listen ∨
        ((s.controller.state = .joining ∨ s.controller.state = .receiving) ∧
          s.bus.tx ≠ .sending) →
      exec .leave s = .next
        ({ s with
            bus := ⟨false, 0, s.bus.slot, s.bus.round, .silent, false, false, none, [], .idle⟩
            frameCheck := ⟨[], [], s.frameCheck.tag, none⟩
            controller := ⟨.standby, s.controller.failures, 0, 0, 0, false, false⟩
            transfer := ⟨[], none, none⟩
            events := arrive s.events (stateChanged s.bus.round s.bus.slot s.stationNumber
              .hostLeave .standby s.controller.failures)
          }.answering 0x04 [] .ok [])) ∧
    ((s.controller.state = .joining ∨ s.controller.state = .receiving) ∧
        s.bus.tx = .sending →
      exec .leave s = .next
        ({ s with controller := { s.controller with leaveAtTxEnd := true } }.answering 0x04 [] .ok
          []) ∧
      ∃ t, exec .leave s = .next t ∧
        exec .transmissionEnd t = .next { t with
          bus := ⟨false, 0, s.bus.slot, s.bus.round, .silent, false, false, none, [], .idle⟩
          frameCheck := ⟨[], [], s.frameCheck.tag, none⟩
          controller := ⟨.standby, s.controller.failures, 0, 0, 0, false, false⟩
          transfer := ⟨[], none, none⟩
          rxd := s.rxd.later (s.timeToReading (16 * (32 + 10 * s.frameCheck.transmit.length)))
          events := arrive s.events (stateChanged s.bus.round s.bus.slot s.stationNumber
            .hostLeave .standby s.controller.failures) }) ∧
    (s.controller.state.active = false →
      exec .leave s = .next (s.answering 0x04 [] .state []))

/-- R85: POST: the checks in their order, and the post appended, QUEUED, with its tag. -/
def Obligations.PostIsCheckedAndQueued : Prop :=
  ∀ (s : State) (k c o3 o2 o1 o0 : Byte) (kind : ContributionKind) (cell : Fin 32),
    s.awaitsCode →
    (s.controller.state = .unconfigured →
      exec (.post [k, c, o3, o2, o1, o0]) s =
        .next (s.answering 0x10 [k, c, o3, o2, o1, o0] .state [])) ∧
    (s.controller.state ≠ .unconfigured →
      ¬ (1 ≤ k.toNat ∧ k.toNat ≤ 9 ∧ c.toNat ≤ 31) →
      exec (.post [k, c, o3, o2, o1, o0]) s =
        .next (s.answering 0x10 [k, c, o3, o2, o1, o0] .range [])) ∧
    (s.controller.state ≠ .unconfigured →
      1 ≤ k.toNat ∧ k.toNat ≤ 9 ∧ c.toNat ≤ 31 → 16 ≤ s.posts.posts.length →
      exec (.post [k, c, o3, o2, o1, o0]) s =
        .next (s.answering 0x10 [k, c, o3, o2, o1, o0] .queueFull [])) ∧
    (s.controller.state ≠ .unconfigured → kindCode kind = k.toNat → cell.val = c.toNat →
      s.posts.posts.length < 16 →
      exec (.post [k, c, o3, o2, o1, o0]) s = .next
        ({ s with
            posts := PostQueue.mk
              (s.posts.posts ++ [Post.mk (freeTag s.posts.posts 16 s.posts.nextTag) kind cell
                (o3 ++ o2 ++ o1 ++ o0) .queued])
              (freeTag s.posts.posts 16 s.posts.nextTag + 1) }.answering 0x10
          [k, c, o3, o2, o1, o0] .ok [freeTag s.posts.posts 16 s.posts.nextTag]))

/-- R84: the tag of a new post is the first value from the next-tag counter on, counting upward and
wrapping, that no post in the queue holds. -/
def Obligations.TagIsFirstFree : Prop :=
  ∀ (posts : List Post) (start : Byte) (k : Nat), posts.length ≤ 15 →
    (∀ p ∈ posts, p.tag ≠ freeTag posts 16 start) ∧
      (k < (freeTag posts 16 start - start).toNat →
        ∃ p ∈ posts, p.tag = start + BitVec.ofNat 8 k)

/-- R87, R89: CANCEL removes a QUEUED post, answers IN_FLIGHT for a SENT one and NOT_FOUND for an unknown
tag; QUERY POST reports the post and changes nothing. -/
def Obligations.CancelAndQueryByTag : Prop :=
  ∀ (s : State) (tag : Byte) (p : Post) (stamp : Round) (result : Option PostResult),
    s.awaitsCode → (s.posts.posts.map Post.tag).Nodup →
    ((∀ q ∈ s.posts.posts, q.tag ≠ tag) →
      exec (.cancel [tag]) s = .next (s.answering 0x11 [tag] .notFound []) ∧
      exec (.queryPost [tag]) s = .next (s.answering 0x12 [tag] .notFound [])) ∧
    (p ∈ s.posts.posts → p.tag = tag → p.status = .queued →
      exec (.cancel [tag]) s = .next
        ({ s with posts := { s.posts with posts := s.posts.posts.erase p } }.answering 0x11 [tag]
          .ok []) ∧
      exec (.queryPost [tag]) s = .next (s.answering 0x12 [tag] .ok [0, 0, 0])) ∧
    (p ∈ s.posts.posts → p.tag = tag → p.status = .sent stamp result →
      exec (.cancel [tag]) s = .next (s.answering 0x11 [tag] .inFlight []) ∧
      exec (.queryPost [tag]) s = .next
        (s.answering 0x12 [tag] .ok [1, stamp.extractLsb' 8 8, stamp.extractLsb' 0 8]))

/-- R117, R173: READ CELL answers the record of the cell as it stands with the stale flag, RANGE for an
index above 31, and changes nothing; in UNCONFIGURED it answers the initial values, stale. -/
def Obligations.ReadCellReportsRecord : Prop :=
  ∀ (s : State) (c : Byte) (i : Fin 32), s.awaitsCode →
    (31 < c.toNat → exec (.readCell [c]) s = .next (s.answering 0x20 [c] .range [])) ∧
    (i.val = c.toNat →
      exec (.readCell [c]) s = .next (s.answering 0x20 [c] .ok
        [s.cells[i].value.extractLsb' 32 8, s.cells[i].value.extractLsb' 24 8,
          s.cells[i].value.extractLsb' 16 8, s.cells[i].value.extractLsb' 8 8,
          s.cells[i].value.extractLsb' 0 8,
          s.cells[i].residue.extractLsb' 24 8, s.cells[i].residue.extractLsb' 16 8,
          s.cells[i].residue.extractLsb' 8 8, s.cells[i].residue.extractLsb' 0 8,
          BitVec.ofNat 8 (s.cells[i].flags.carry.toNat + 2 * s.cells[i].flags.overflow.toNat +
            4 * s.cells[i].flags.diverr.toNat),
          s.cells[i].version.extractLsb' 8 8, s.cells[i].version.extractLsb' 0 8,
          if s.controller.state = .member then 0 else 1])) ∧
    (c.toNat ≤ 31 → s.controller.state = .unconfigured → s.ConfigLaw →
      exec (.readCell [c]) s =
        .next (s.answering 0x20 [c] .ok [0, 0, 0, 0, 0, 0, 0, 0, 0, 0, 0, 0, 1]))

/-- R138, R141: SET WATCH is refused by the first check that fails, and a refused request changes
nothing. -/
def Obligations.SetWatchRefusals : Prop :=
  ∀ (s : State) (c k t4 t3 t2 t1 t0 l : Byte) (i : Fin 16) (w : Watch),
    s.awaitsCode → s.WatchLaw →
    (s.controller.state = .unconfigured →
      exec (.setWatch [c, k, t4, t3, t2, t1, t0, l]) s =
        .next (s.answering 0x30 [c, k, t4, t3, t2, t1, t0, l] .state [])) ∧
    (s.controller.state ≠ .unconfigured →
      ¬ (c.toNat ≤ 31 ∧ 1 ≤ k.toNat ∧ k.toNat ≤ 5 ∧ (l.toNat ≤ 3 ∨ l.toNat = 255)) →
      exec (.setWatch [c, k, t4, t3, t2, t1, t0, l]) s =
        .next (s.answering 0x30 [c, k, t4, t3, t2, t1, t0, l] .range [])) ∧
    (s.controller.state ≠ .unconfigured →
      c.toNat ≤ 31 ∧ k.toNat = 4 ∧ l.toNat ≤ 3 →
      exec (.setWatch [c, k, t4, t3, t2, t1, t0, l]) s =
        .next (s.answering 0x30 [c, k, t4, t3, t2, t1, t0, l] .badLine [])) ∧
    (s.controller.state ≠ .unconfigured →
      1 ≤ k.toNat ∧ k.toNat ≤ 5 ∧ (l.toNat = 255 ∨ (l.toNat ≤ 3 ∧ k.toNat ≠ 4)) →
      s.watch.entries[i] = some w ∧ w.cell.val = c.toNat ∧ conditionCode w.condition = k.toNat ∧
        (k.toNat ≤ 3 → w.threshold = t4 ++ t3 ++ t2 ++ t1 ++ t0) →
      exec (.setWatch [c, k, t4, t3, t2, t1, t0, l]) s =
        .next (s.answering 0x30 [c, k, t4, t3, t2, t1, t0, l] .duplicate [])) ∧
    (s.controller.state ≠ .unconfigured →
      c.toNat ≤ 31 ∧ 1 ≤ k.toNat ∧ k.toNat ≤ 5 ∧ (l.toNat = 255 ∨ (l.toNat ≤ 3 ∧ k.toNat ≠ 4)) →
      (∀ j : Fin 16, ∀ v ∈ s.watch.entries[j],
        ¬ (v.cell.val = c.toNat ∧ conditionCode v.condition = k.toNat ∧
          (k.toNat ≤ 3 → v.threshold = t4 ++ t3 ++ t2 ++ t1 ++ t0))) →
      (∀ j : Fin 16, s.watch.entries[j] ≠ none) →
      exec (.setWatch [c, k, t4, t3, t2, t1, t0, l]) s =
        .next (s.answering 0x30 [c, k, t4, t3, t2, t1, t0, l] .tableFull []))

/-- R139, R140, R142: an accepted SET WATCH fills the lowest-numbered empty entry, stores the state its
test finds, queues WATCH_ON when it HOLDS, and recomputes the lines. The test: ABOVE and BELOW compare
value and threshold as numbers in the cell's mode, EQUAL compares the patterns, FLAGGED asks for any of
the three flags, CHANGE never holds. -/
def Obligations.SetWatchFillsLowestEntry : Prop :=
  ∀ (s : State) (c k t4 t3 t2 t1 t0 l : Byte) (cell : Fin 32) (condition : WatchCondition)
      (line : Option (Fin 4)) (i : Fin 16) (holds : Bool),
    s.awaitsCode → s.controller.state ≠ .unconfigured →
    cell.val = c.toNat → conditionCode condition = k.toNat → lineCode line = l.toNat →
    (condition = .change → line = none) →
    (∀ j : Fin 16, ∀ v ∈ s.watch.entries[j],
      ¬ (v.cell = cell ∧ v.condition = condition ∧
        v.threshold = storedThreshold condition (t4 ++ t3 ++ t2 ++ t1 ++ t0))) →
    (∀ j : Fin 16, j < i → s.watch.entries[j] ≠ none) → s.watch.entries[i] = none →
    holds =
      (match condition, s.cellMode cell with
        | .above, .unsigned =>
          decide (((t4 ++ t3 ++ t2 ++ t1 ++ t0).toNat : Int) < s.cells[cell].value.toNat)
        | .above, .signed => decide ((t4 ++ t3 ++ t2 ++ t1 ++ t0).toInt < s.cells[cell].value.toInt)
        | .below, .unsigned =>
          decide ((s.cells[cell].value.toNat : Int) < (t4 ++ t3 ++ t2 ++ t1 ++ t0).toNat)
        | .below, .signed => decide (s.cells[cell].value.toInt < (t4 ++ t3 ++ t2 ++ t1 ++ t0).toInt)
        | .equal, _ => decide (s.cells[cell].value = t4 ++ t3 ++ t2 ++ t1 ++ t0)
        | .flagged, _ =>
          s.cells[cell].flags.carry || s.cells[cell].flags.overflow || s.cells[cell].flags.diverr
        | .change, _ => false) →
    ∃ t, exec (.setWatch [c, k, t4, t3, t2, t1, t0, l]) s = .next t ∧
      t = { s with watch := t.watch, events := t.events, host := t.host } ∧
      t.watch.entries = s.watch.entries.set i (some
        ⟨cell, condition, storedThreshold condition (t4 ++ t3 ++ t2 ++ t1 ++ t0), line, holds⟩) ∧
      (∀ x : Fin 4, t.watch.lines[x] = true ↔
        ∃ j : Fin 16, entryDrives x t.watch.entries[j] = true) ∧
      t.events = (if holds then
          arrive s.events ⟨.watchOn, s.bus.round, byteOf s.bus.slot, 0, c, byteOf i.val, 0,
            s.cells[cell].value, flagsByte s.cells[cell].flags⟩
        else s.events) ∧
      t.host = (s.answering 0x30 [c, k, t4, t3, t2, t1, t0, l] .ok
        [byteOf i.val, if holds then 1 else 0]).host

/-- R140, R143, R144: CLEAR WATCH empties one entry or all of them and recomputes the lines, with no
event; READ WATCH reports an entry and changes nothing. -/
def Obligations.ClearAndReadWatch : Prop :=
  ∀ (s : State) (b : Byte) (i : Fin 16) (w : Watch), s.awaitsCode →
    (i.val = b.toNat → s.watch.entries[i] = none →
      exec (.clearWatch [b]) s = .next (s.answering 0x31 [b] .notFound []) ∧
      exec (.readWatch [b]) s = .next (s.answering 0x32 [b] .notFound [])) ∧
    (i.val = b.toNat → s.watch.entries[i] = some w →
      exec (.readWatch [b]) s = .next (s.answering 0x32 [b] .ok
        [byteOf w.cell.val, byteOf (conditionCode w.condition),
          w.threshold.extractLsb' 32 8, w.threshold.extractLsb' 24 8,
          w.threshold.extractLsb' 16 8, w.threshold.extractLsb' 8 8, w.threshold.extractLsb' 0 8,
          byteOf (lineCode w.line), if w.holds then 1 else 0]) ∧
      ∃ t, exec (.clearWatch [b]) s = .next t ∧
        t = { s with watch := t.watch }.answering 0x31 [b] .ok [] ∧
        t.watch.entries = s.watch.entries.set i none ∧
        (∀ x : Fin 4, t.watch.lines[x] = true ↔
          ∃ j : Fin 16, entryDrives x t.watch.entries[j] = true)) ∧
    (16 ≤ b.toNat → exec (.readWatch [b]) s = .next (s.answering 0x32 [b] .range [])) ∧
    (16 ≤ b.toNat → b.toNat ≤ 254 →
      exec (.clearWatch [b]) s = .next (s.answering 0x31 [b] .range [])) ∧
    exec (.clearWatch [255]) s = .next
      ({ s with watch := ⟨Vector.replicate 16 none, Vector.replicate 4 false⟩ }.answering 0x31
        [255] .ok [])

/-- R157, R158: TAKE EVENT captures the oldest record and changes nothing; the record leaves the head
when its last byte has been clocked out, arrivals in between standing at the tail; a select period that
ends before that removes nothing; an empty queue is answered EMPTY. That a second EVENT_REMOVAL, or one
without a record to clock out, has no effect is the model's choice (assumption 3). -/
def Obligations.TakeEventThenRemoval : Prop :=
  ∀ (s : State) (e x : EventRecord) (rest : List EventRecord), s.awaitsCode →
    (s.events = e :: rest →
      ∃ t, exec .takeEvent s = .next t ∧
        t = s.answering 0x40 [] .ok
          [byteOf (eventKindCode e.kind), e.round.extractLsb' 8 8, e.round.extractLsb' 0 8, e.slot,
            e.station, e.cell, e.item, e.code, e.value.extractLsb' 32 8, e.value.extractLsb' 24 8,
            e.value.extractLsb' 16 8, e.value.extractLsb' 8 8, e.value.extractLsb' 0 8, e.extra] ∧
        (∃ u, exec .eventRemoval t = .next u ∧
          u = { t with events := rest, host := { t.host with phase := u.host.phase } } ∧
          exec .eventRemoval u = .next u) ∧
        (∃ u, exec .eventRemoval (t.queueEvent x) = .next u ∧
          u.events = (arrive s.events x).tail) ∧
        (s.host.csn = false → s.host.resetPending = false →
          ∃ u, exec .selectEnd t = .next u ∧ u.events = s.events ∧
            exec .eventRemoval u = .next u)) ∧
    (s.events = [] →
      exec .takeEvent s = .next (s.answering 0x40 [] .empty []) ∧
      exec .eventRemoval (s.answering 0x40 [] .empty []) =
        .next (s.answering 0x40 [] .empty []))

/-! ### The event queue -/

/-- R155, R156: an arrival by the number of records held and the newest of them. R94: an arriving event
is stored as a record or counted in an EVENTS_LOST record: none goes unaccounted for, until a lost count
stands at its greatest value. -/
def Obligations.ArrivalIsStoredOrCounted : Prop :=
  ∀ (q : List EventRecord) (e newest : EventRecord),
    (q.length ≤ 30 → arrive q e = q ++ [e]) ∧
    (q.length = 31 → q.getLast? = some newest → newest.kind ≠ .eventsLost →
      arrive q e = q ++ [⟨.eventsLost, e.round, e.slot, 0, 0, 0, 0, 1, 1⟩]) ∧
    (q.length = 31 ∨ q.length = 32 → q.getLast? = some newest → newest.kind = .eventsLost →
      arrive q e = q.dropLast ++
        [{ newest with
          value := if newest.value.toNat = 2 ^ 40 - 1 then newest.value else newest.value + 1
          extra := if newest.extra.toNat = 255 then newest.extra else newest.extra + 1 }]) ∧
    (e.kind ≠ .eventsLost → (∀ r ∈ q, r.kind = .eventsLost → r.value.toNat < 2 ^ 40 - 1) →
      accountedFor (arrive q e) = accountedFor q + 1)

/-! ### The arithmetic of the cells -/

/-- R6 to R10, R12, R13: ADD, SUB, MADD and MSUB: the true result within the range of the mode becomes
the value; outside it the flag of the mode is set and the policy gives the value; the residue is kept
and the version counts. -/
def Obligations.SumsFollowTheRangeRule : Prop :=
  ∀ (c : Cell) (mode : CellMode) (policy : CellPolicy) (kind : ContributionKind)
      (operand : Operand) (true_ : Int),
    ((kind = .add ∧ true_ = patternValue mode c.value + patternValue mode operand) ∨
      (kind = .sub ∧ true_ = patternValue mode c.value - patternValue mode operand) ∨
      (kind = .madd ∧ true_ = patternValue mode c.value +
        patternValue mode (operand.extractLsb' 16 16) *
          patternValue mode (operand.extractLsb' 0 16)) ∨
      (kind = .msub ∧ true_ = patternValue mode c.value -
        patternValue mode (operand.extractLsb' 16 16) *
          patternValue mode (operand.extractLsb' 0 16))) →
    ∃ d, c.contribute mode policy kind operand = (d, .applied) ∧
      d.residue = c.residue ∧ d.version = c.version + 1 ∧
      patternValue mode d.value =
        (if lowest mode ≤ true_ ∧ true_ ≤ highest mode then true_
        else
          match policy with
          | .wrap => if highest mode < true_ then true_ - 2 ^ 40 else true_ + 2 ^ 40
          | .saturate => if highest mode < true_ then highest mode else lowest mode) ∧
      d.flags =
        (if lowest mode ≤ true_ ∧ true_ ≤ highest mode then c.flags
        else
          match mode with
          | .unsigned => { c.flags with carry := true }
          | .signed => { c.flags with overflow := true })

/-- R7, R8, R10, R14, R15, R19, R20: LOAD sets the value to the extended operand and keeps residue and
flags; CLEAR clears value, residue and flags; CLEAR FLAGS clears the flags; each is APPLIED and counts.
A TAKE is granted exactly when the value is at least x; a granted one subtracts under the range rule, a
refused one leaves value, residue and flags; both count. -/
def Obligations.LoadTakeAndClears : Prop :=
  ∀ (c : Cell) (mode : CellMode) (policy : CellPolicy) (operand : Operand),
    (∃ d, c.contribute mode policy .load operand = (d, .applied) ∧
      patternValue mode d.value = patternValue mode operand ∧ d.residue = c.residue ∧
      d.flags = c.flags ∧ d.version = c.version + 1) ∧
    c.contribute mode policy .clear operand =
      (⟨0, 0, ⟨false, false, false⟩, c.version + 1⟩, .applied) ∧
    c.contribute mode policy .clearFlags operand =
      (⟨c.value, c.residue, ⟨false, false, false⟩, c.version + 1⟩, .applied) ∧
    (patternValue mode c.value < patternValue mode operand →
      c.contribute mode policy .take operand =
        ({ c with version := c.version + 1 }, .refused)) ∧
    (patternValue mode operand ≤ patternValue mode c.value →
      ∃ d, c.contribute mode policy .take operand = (d, .granted) ∧ d.residue = c.residue ∧
        d.version = c.version + 1 ∧
        (patternValue mode c.value - patternValue mode operand ≤ highest mode →
          patternValue mode d.value = patternValue mode c.value - patternValue mode operand ∧
            d.flags = c.flags) ∧
        (highest mode < patternValue mode c.value - patternValue mode operand →
          mode = .signed ∧ d.flags = { c.flags with overflow := true } ∧
            d.value.toInt =
              (match policy with
                | .wrap => c.value.toInt - operand.toInt - 2 ^ 40
                | .saturate => 2 ^ 39 - 1)))

/-- R10, R16 to R18: DIVIDE: a divisor of 0 sets DIVERR and is REFUSED; otherwise quotient and remainder,
truncated toward zero on a SIGNED cell; -2^39 divided by -1 is the one overflow. -/
def Obligations.DivideKeepsRemainder : Prop :=
  ∀ (c : Cell) (mode : CellMode) (policy : CellPolicy) (operand : Operand),
    (operand = 0 →
      c.contribute mode policy .divide operand =
        ({ c with flags := { c.flags with diverr := true }, version := c.version + 1 },
          .refused)) ∧
    (operand ≠ 0 →
      ∃ d, c.contribute .unsigned policy .divide operand = (d, .applied) ∧
        d.flags = c.flags ∧ d.version = c.version + 1 ∧
        d.value.toNat * operand.toNat + d.residue.toNat = c.value.toNat ∧
        d.residue.toNat < operand.toNat) ∧
    (operand ≠ 0 → ¬ (c.value.toInt = -2 ^ 39 ∧ operand.toInt = -1) →
      ∃ d, c.contribute .signed policy .divide operand = (d, .applied) ∧
        d.flags = c.flags ∧ d.version = c.version + 1 ∧
        d.value.toInt * operand.toInt + d.residue.toInt = c.value.toInt ∧
        d.residue.toInt.natAbs < operand.toInt.natAbs ∧
        (d.residue.toInt = 0 ∨ (d.residue.toInt < 0 ↔ c.value.toInt < 0))) ∧
    (c.value.toInt = -2 ^ 39 → operand.toInt = -1 →
      c.contribute .signed .wrap .divide operand =
        (⟨c.value, 0, { c.flags with overflow := true }, c.version + 1⟩, .applied) ∧
      c.contribute .signed .saturate .divide operand =
        (⟨BitVec.ofInt 40 (2 ^ 39 - 1), 0, { c.flags with overflow := true }, c.version + 1⟩,
          .applied))

/-! ### Frames -/

/-- R43 to R47, R50, R52: reading back the bytes of any frame a station may build gives that frame, and
the bytes are as many as the declared length. -/
def Obligations.BuiltFrameReadsBack : Prop :=
  ∀ (f : Frame), f.WellFormed →
    readFrame f.bytes = some f ∧ f.bytes.length = f.length ∧
      declaredLength f.bytes f.bytes.length = some f.length

/-- R48, R50 to R53: a whole run of a well-formed frame in its sender's slot is INTACT with its tag match
mark; in another station's slot it is BAD(SENDER); cut short it is BAD(FRAMING), with characters added
BAD(LENGTH), with a low stop bit BAD(FRAMING). And any run of `n` characters whatever, the first 93 of them
in `bytes`: the declared length by R50, and the verdict by the first of R51's seven checks that fails, the
slot in which the run began being `slot`, none without slots. A run that is INTACT holds exactly the bytes
of a frame whose fields are all legal by R52. That these checks in this order judge also a frame
cut off by a reset within its first or its last character, which R38 and R98 call BAD(FRAMING), is the
model's choice (assumption 29). -/
def Obligations.RunOfFrameIsJudged : Prop :=
  ∀ (f : Frame) (count : Nat) (tag : Byte) (owner k : Nat) (more : List Byte)
      (slot : Option Nat) (bytes : List Byte) (n d : Nat) (upper : BitVec 4) (sender : Nat)
      (g : Frame) (m : Bool),
    upper = (bytes.getD 0 0).extractLsb' 4 4 →
    sender = ((bytes.getD 0 0).extractLsb' 0 4).toNat →
    (f.WellFormed →
      judgeRun (some f.sender) count tag f.length false f.bytes =
          .intact f (decide (f.tag = tag)) ∧
        (owner ≠ f.sender →
          judgeRun (some owner) count tag f.length false f.bytes = .bad .sender) ∧
        (1 ≤ k → k < f.length →
          judgeRun (some owner) count tag k false (f.bytes.take k) = .bad .framing) ∧
        (more ≠ [] →
          judgeRun (some owner) count tag (f.length + more.length) false
            ((f.bytes ++ more).take 93) = .bad .length) ∧
        judgeRun (some owner) count tag f.length true f.bytes = .bad .framing) ∧
    judgeRun slot count tag n true bytes = .bad .framing ∧
    (upper ≠ 0xA#4 → upper ≠ 0x6#4 → judgeRun slot count tag n false bytes = .bad .format) ∧
    (upper = 0x6#4 → declaredLength bytes n = some 7) ∧
    (upper = 0xA#4 → n < 9 → declaredLength bytes n = none) ∧
    (upper = 0xA#4 → 9 ≤ n →
      declaredLength bytes n = some ((if (bytes.getD 8 0).getLsbD 6 then 65 else 11) +
        7 * ((bytes.getD 8 0).extractLsb' 0 3).toNat)) ∧
    (upper = 0xA#4 ∨ upper = 0x6#4 →
      (declaredLength bytes n = none ∨ (declaredLength bytes n = some d ∧ n < d) →
        judgeRun slot count tag n false bytes = .bad .framing) ∧
      (declaredLength bytes n = some d → d ≤ n → d < n ∨ 93 < n →
        judgeRun slot count tag n false bytes = .bad .length) ∧
      (declaredLength bytes n = some n → n ≤ 93 →
        (crcMatches bytes = false → judgeRun slot count tag n false bytes = .bad .crc) ∧
        (crcMatches bytes = true →
          ((slot = some owner ∧ owner ≠ sender) ∨
              (slot = none ∧ bytes.getD 3 0 = tag ∧ count ≤ sender) →
            judgeRun slot count tag n false bytes = .bad .sender) ∧
          (slot = some sender ∨ (slot = none ∧ (bytes.getD 3 0 ≠ tag ∨ sender < count)) →
            (readFrame bytes = none → judgeRun slot count tag n false bytes = .bad .format) ∧
            (readFrame bytes = some g →
              judgeRun slot count tag n false bytes = .intact g (decide (g.tag = tag))))))) ∧
    (bytes.length = min n 93 → judgeRun slot count tag n false bytes = .intact g m →
      g.WellFormed ∧ bytes = g.bytes ∧ n = g.length ∧ m = decide (g.tag = tag))

/-- R48: bytes that end in their CRC no longer do when any one of them is altered. -/
def Obligations.AlteredByteFailsCrc : Prop :=
  ∀ (bytes : List Byte) (i : Nat) (b : Byte), 2 ≤ bytes.length → i < bytes.length →
    bytes.getD i 0 ≠ b → crcMatches bytes = true → crcMatches (bytes.set i b) = false

/-! ### The line -/

/-- R24, R25, R26, R29, R30, R35, R37, R103: RXD falls in a slot, `wait` from now. A glitch changes no
more than the time. A start bit within 2 bit times of the last character belongs to the run in progress.
Otherwise it begins a run: the first of the slot gives the timing verdict by its offset, and only one
that begins in the window is received, a run carried over into the slot having ended; a further one
spoils an IN WINDOW frame and leaves an EARLY or LATE slot as it is. With a frame of the station in the
slot the character is captured, whatever the run. In LISTEN the start bit sets the listen timer to 0, and
after a low stop bit the timer is held there until RXD has returned high, and counts from then on. R30 at
the slot end: a further run, or the frame still in progress, makes the slot BAD(FRAMING); a run in
progress is carried into the next slot, where nothing has begun yet, and followed only for its end. That
BUS_ACTIVITY carries the time of the fall, the samples and the low time after them is the model's choice
(assumptions 5 and 9), the level between samples is presumed (assumption 12), and that a character is
captured before the own start bit too, and that a run goes on after a low stop bit, is deduced
(assumptions 10 and 21). That a frame closed at the boundary is BAD(FRAMING) whatever R51's other checks
would find is the model's choice between R30 and R51 (assumption 32). -/
def Obligations.FirstFallGivesTimingVerdict : Prop :=
  ∀ (s : State) (gap low wait n : Nat) (samples : BitVec 10) (r : Run) (offset : Int)
      (v : Verdict),
    s.controller.state.active = true → s.bus.sync = true →
    wait = (match s.bus.run with
      | none => s.rxd.untilHigh + gap
      | some _ => s.rxd.idleAt + gap - s.rxd.age) →
    (samples.getLsbD 0 = true →
      exec (.busActivity gap ⟨samples, low⟩) s = .next { s with
        bus := { s.bus with
          slotTimer := s.bus.slotTimer + wait
          run := s.bus.run.map fun q => { q with age := q.age + wait } }
        rxd := { s.rxd with age := s.rxd.age + wait }
        controller := { s.controller with
          listenTimer :=
            if s.controller.state = .listen then
              min (s.controller.listenTimer + wait) (s.rxd.highAfter wait)
            else s.controller.listenTimer } }) ∧
    (samples.getLsbD 0 = false →
      ∃ t, exec (.busActivity gap ⟨samples, low⟩) s = .next t ∧
        t = { s with
          bus := t.bus, frameCheck := t.frameCheck, rxd := ⟨⟨samples, low⟩, 0⟩
          controller := { s.controller with
            listenTimer :=
              if s.controller.state = .listen then 0 else s.controller.listenTimer } } ∧
        t.bus.slotTimer = s.bus.slotTimer + wait ∧ t.bus.slot = s.bus.slot ∧
        t.bus.round = s.bus.round ∧ t.bus.sync = true ∧ t.bus.tx = s.bus.tx ∧
        t.bus.carried = s.bus.carried ∧
        (s.bus.tx ≠ .idle → s.bus.loopback.length < 93 →
          t.bus.loopback = s.bus.loopback ++ [samples.extractLsb' 1 8]) ∧
        (s.bus.tx = .idle ∨ 93 ≤ s.bus.loopback.length → t.bus.loopback = s.bus.loopback) ∧
        (s.bus.start = .silent →
          s.bus.run = none ∨ (s.bus.run = some r ∧ r.isFrame = false ∧ 32 < gap) →
          t.bus.further = s.bus.further ∧
          (s.bus.slotTimer + wait < 16 * 16 →
            t.bus.start = .early ∧ t.bus.run = some ⟨false, 1, !samples.getLsbD 9, 0⟩ ∧
              t.frameCheck = s.frameCheck) ∧
          (16 * 16 ≤ s.bus.slotTimer + wait → s.bus.slotTimer + wait ≤ 16 * 48 →
            t.bus.start = .inWindow (s.bus.slotTimer + wait) ∧
              t.bus.run = some ⟨true, 1, !samples.getLsbD 9, 0⟩ ∧
              t.frameCheck = { s.frameCheck with receive := [samples.extractLsb' 1 8] }) ∧
          (16 * 48 < s.bus.slotTimer + wait →
            t.bus.start = .late ∧ t.bus.run = some ⟨false, 1, !samples.getLsbD 9, 0⟩ ∧
              t.frameCheck = s.frameCheck)) ∧
        (s.bus.start ≠ .silent → s.bus.run = none ∨ (s.bus.run = some r ∧ 32 < gap) →
          t.bus.start = s.bus.start ∧ t.bus.run = some ⟨false, 1, !samples.getLsbD 9, 0⟩ ∧
          (s.bus.start = .inWindow offset → t.bus.further = true) ∧
          (s.bus.start = .early ∨ s.bus.start = .late → t.bus.further = s.bus.further) ∧
          (s.bus.run = none ∨ r.isFrame = false → t.frameCheck = s.frameCheck) ∧
          (s.bus.run = some r → r.isFrame = true →
            t.frameCheck = { s.frameCheck with
              judged := some (judgeRun (some s.bus.slot) s.stationCount s.configTag r.count
                r.lowStop s.frameCheck.receive) })) ∧
        (s.bus.run = some r → gap ≤ 32 → s.rxd.age ≤ s.rxd.idleAt + gap →
          t.bus.start = s.bus.start ∧ t.bus.further = s.bus.further ∧
          t.bus.run =
            some ⟨r.isFrame, r.count + 1, r.lowStop || !samples.getLsbD 9, r.age + wait⟩ ∧
          t.frameCheck = { s.frameCheck with
            receive :=
              if r.isFrame ∧ r.count < 93 then
                s.frameCheck.receive ++ [samples.extractLsb' 1 8]
              else s.frameCheck.receive }) ∧
        (s.controller.state = .listen → samples.getLsbD 9 = false → 16 * 10 ≤ n →
          (t.passTime n).controller.listenTimer = n - (16 * 10 + low))) ∧
    (s.bus.start = .silent → s.slotVerdict = .silent) ∧
    (s.bus.start = .early → s.slotVerdict = .bad .early) ∧
    (s.bus.start = .late → s.slotVerdict = .bad .late) ∧
    (s.bus.start = .inWindow offset →
      (s.bus.further = true ∨ (s.bus.run = some r ∧ r.isFrame = true) →
        s.slotVerdict = .bad .framing) ∧
      (s.bus.further = false →
        s.bus.run = none ∨ (s.bus.run = some r ∧ r.isFrame = false) →
        s.frameCheck.judged = some v → s.slotVerdict = v)) ∧
    (s.bus.run = some r → s.bus.tx ≠ .sending → s.rxdAtSlotEnd.endsRun = false →
      s.bus.slotTimer ≤ (s.slotSixteenths : Int) →
      ∃ t, exec .slotEnd s = .next t ∧ t.rxd = s.rxdAtSlotEnd ∧
        (t.bus.sync = true →
          t.bus.slot = s.nextSlot ∧ t.bus.start = .silent ∧ t.bus.further = false ∧
          t.bus.carried = true ∧
          t.bus.run = some { r with
            isFrame := false, age := r.age + s.timeToReading s.slotSixteenths } ∧
          t.frameCheck.receive = [] ∧ t.frameCheck.judged = none))

/-- R24, R25, R29, R51, R53: what becomes of a run in a slot. The characters of a well-formed frame, sent
back to back from a start bit in the window of its sender's slot, followed by the end of the run, leave
the judged frame INTACT with the tag match mark for the slot's end. RUN_END of any run received as the
slot's frame leaves the verdict of Frame Check for the slot's end, whatever it is (`RunOfFrameIsJudged`
says which); a run followed only for its end leaves none. A run that is over by the slot's end has
ended before the slot is judged. That BUS_ACTIVITY, RUN_END and SLOT_END carry or imply the time that
passes, and that SLOT_END takes the end of a run that is over, is the model's choice (assumption 5),
and so is that RUN_END without a run in progress changes nothing (assumption 3); that a station with a
frame of its own in the slot captures every character of the slot, those before its own start bit and
after its last stop bit too, is deduced (assumption 21); the level of RXD between samples is presumed
(assumption 12). -/
def Obligations.FrameOnLineIsHeardIntact : Prop :=
  ∀ (s : State) (f : Frame) (first : Byte) (rest : List Byte) (gap wait : Nat) (r : Run),
    s.controller.state.active = true → s.bus.sync = true →
    wait = s.rxd.idleAt + max gap 33 - s.rxd.age →
    (f.WellFormed → f.bytes = first :: rest → s.bus.slot = f.sender →
      s.bus.start = .silent → s.bus.run = none →
      16 * 16 ≤ s.bus.slotTimer + (s.rxd.untilHigh + gap : Nat) →
      s.bus.slotTimer + (s.rxd.untilHigh + gap : Nat) ≤ 16 * 48 →
      ∃ t, execAll ((.busActivity gap ⟨characterOf first, 0⟩ ::
            rest.map fun b => .busActivity 0 ⟨characterOf b, 0⟩) ++ [.runEnd 0]) s = .next t ∧
        t.bus.start = .inWindow (s.bus.slotTimer + (s.rxd.untilHigh + gap : Nat)) ∧
        t.bus.further = s.bus.further ∧
        t.bus.run = none ∧ t.bus.slot = s.bus.slot ∧ t.bus.round = s.bus.round ∧
        t.bus.sync = true ∧ t.bus.tx = s.bus.tx ∧
        (s.bus.tx = .idle → t.bus.loopback = s.bus.loopback) ∧
        (s.bus.tx ≠ .idle → s.bus.loopback.length ≤ 93 →
          t.bus.loopback = (s.bus.loopback ++ f.bytes).take 93) ∧
        t.frameCheck.judged = some (.intact f (decide (f.tag = s.configTag))) ∧
        t.frameCheck.transmit = s.frameCheck.transmit ∧
        t = { s with
          bus := t.bus, frameCheck := t.frameCheck
          rxd := ⟨⟨characterOf (f.bytes.getLastD 0), 0⟩, 16 * 12 + 1⟩
          controller := { s.controller with listenTimer := t.controller.listenTimer } }) ∧
    (s.bus.run = some r →
      exec (.runEnd gap) s = .next { s with
        bus := { s.bus with slotTimer := s.bus.slotTimer + wait, run := none }
        frameCheck :=
          if r.isFrame then
            { s.frameCheck with
              judged := some (judgeRun (some s.bus.slot) s.stationCount s.configTag r.count
                r.lowStop s.frameCheck.receive) }
          else s.frameCheck
        rxd := s.rxd.later wait
        controller := { s.controller with
          listenTimer :=
            if s.controller.state = .listen then
              min (s.controller.listenTimer + wait) (s.rxd.highAfter wait)
            else s.controller.listenTimer } }) ∧
    (s.bus.run = none → exec (.runEnd gap) s = .next s) ∧
    (s.bus.run = some r → s.bus.tx ≠ .sending → s.rxdAtSlotEnd.endsRun = true →
      exec .slotEnd s = execAll [.runEnd 0, .slotEnd] s)

/-- R24, R26, R34, R114: OWN_TRANSMISSION_START asserts DE at offset 32 when a frame was supplied;
meanwhile TXD carries the frame's characters back to back, each as a start bit, eight data bits with
the least significant first, and a stop bit; TRANSMISSION_END deasserts DE, and takes a LEAVE that
waited for it. Activity on RXD defers neither: a run in progress only grows older. That the commands pass
the time to their own instant, and have no effect without a frame, is the model's choice (assumptions 3
and 5), and so is the stopped slot timer's figure 0 (assumption 11). -/
def Obligations.OwnTransmissionOnTheLine : Prop :=
  ∀ (s : State) (j i r : Nat) (b : Byte),
    (s.bus.tx = .sending → s.frameCheck.transmit[j]? = some b → i < 10 → r < 16 →
      s.bus.slotTimer = ((16 * (32 + 10 * j + i) + r : Nat) : Int) →
      s.de = true ∧
        s.txd = (if i = 0 then false else if i = 9 then true else b.getLsbD (i - 1))) ∧
    (s.bus.tx = .built → s.bus.sync = true → s.bus.slotTimer ≤ 16 * 32 →
      s.controller.state ≠ .listen →
      exec .ownTransmissionStart s = .next
        { s with
          bus := { s.bus with
            slotTimer := 16 * 32, tx := .sending
            run := s.bus.run.map fun r => { r with age := r.age + s.timeToReading (16 * 32) } }
          rxd := s.rxd.later (s.timeToReading (16 * 32)) }) ∧
    (s.bus.tx ≠ .built → exec .ownTransmissionStart s = .next s) ∧
    (s.bus.tx = .sending → s.bus.sync = true →
      s.bus.slotTimer ≤ 16 * (32 + 10 * s.frameCheck.transmit.length) →
      s.controller.state ≠ .listen → s.controller.leaveAtTxEnd = false →
      exec .transmissionEnd s = .next
        { s with
          bus := { s.bus with
            slotTimer := 16 * (32 + 10 * s.frameCheck.transmit.length), tx := .sent
            run := s.bus.run.map fun r => { r with
              age := r.age + s.timeToReading (16 * (32 + 10 * s.frameCheck.transmit.length)) } }
          rxd := s.rxd.later (s.timeToReading (16 * (32 + 10 * s.frameCheck.transmit.length))) }) ∧
    (s.bus.tx = .sending → s.controller.leaveAtTxEnd = true →
      exec .transmissionEnd s = .next
        { s with
          bus := ⟨false, 0, s.bus.slot, s.bus.round, .silent, false, false, none, [], .idle⟩
          frameCheck := ⟨[], [], s.frameCheck.tag, none⟩
          controller := ⟨.standby, s.controller.failures, 0, 0, 0, false, false⟩
          transfer := ⟨[], none, none⟩
          rxd := s.rxd.later (s.timeToReading (16 * (32 + 10 * s.frameCheck.transmit.length)))
          events := arrive s.events (stateChanged s.bus.round s.bus.slot s.stationNumber
            .hostLeave .standby s.controller.failures) }) ∧
    (s.bus.tx ≠ .sending → exec .transmissionEnd s = .next s ∧ s.de = false ∧ s.txd = true)

/-- R26, R116: a lawful station in a passive state ignores the bus side altogether: nothing changes but
the level of the line itself, which a fall of RXD sets and an idle step lets grow older. What an idle
step is, and that the line is kept in every state, are the model's choices (assumptions 2 and 7). -/
def Obligations.PassiveStationIgnoresTheBus : Prop :=
  ∀ (i : Instr) (s : State), s.Lawful → s.controller.state.active = false →
    (onBusSide i = true → ∃ x, exec i s = .next { s with rxd := x } ∧
      ((∀ gap fall, i ≠ .busActivity gap fall) → x = s.rxd)) ∧
    (s.pending = [] → step s = .next { s with rxd := s.rxd.later 1 })

/-- R25, R28, R31, R37, R53, R105: an unsynchronised station in LISTEN receives every run, wherever it
begins: a start bit begins a run with its character in the emptied buffer; within 2 bit times of the
last character it adds to the run in progress; later it is the end of that run and then a start bit. A
run that ends is handed to Frame Check. The station synchronises to an INTACT TALLY frame with a
matching tag, which then stands as the frame of its sender's slot, begun at offset 32 in the window; a
matching JOIN does nothing, a foreign frame is only noted (R72), and a BAD run, one with a low stop bit
among them, leaves the sync flag, the events, the latches and the foreign-seen set alone. A whole frame
sent as characters is received and handed on in this way. The time the commands pass and the operands
of BUS_ACTIVITY are the model's choice (assumptions 5 and 9), the level between samples is presumed
(assumption 12), and that a run goes on after a low stop bit is deduced (assumption 10). -/
def Obligations.ListenerSynchronises : Prop :=
  ∀ (s : State) (f : Frame) (run : Run) (gap low wait : Nat) (samples : BitVec 10)
      (reason : BadReason) (first : Byte) (rest : List Byte),
    s.controller.state = .listen → s.bus.sync = false →
    wait = (match s.bus.run with
      | none => s.rxd.untilHigh + gap
      | some _ => s.rxd.idleAt + gap - s.rxd.age) →
    (samples.getLsbD 0 = true →
      exec (.busActivity gap ⟨samples, low⟩) s = .next { s with
        bus := { s.bus with run := s.bus.run.map fun q => { q with age := q.age + wait } }
        rxd := { s.rxd with age := s.rxd.age + wait }
        controller := { s.controller with
          listenTimer := min (s.controller.listenTimer + wait) (s.rxd.highAfter wait) } }) ∧
    (samples.getLsbD 0 = false → s.bus.tx = .idle → s.bus.run = none →
      exec (.busActivity gap ⟨samples, low⟩) s = .next { s with
        bus := { s.bus with run := some ⟨true, 1, !samples.getLsbD 9, 0⟩ }
        frameCheck := { s.frameCheck with receive := [samples.extractLsb' 1 8] }
        rxd := ⟨⟨samples, low⟩, 0⟩
        controller := { s.controller with listenTimer := 0 } }) ∧
    (samples.getLsbD 0 = false → s.bus.tx = .idle → s.bus.run = some run → gap ≤ 32 →
      s.rxd.age ≤ s.rxd.idleAt + gap →
      exec (.busActivity gap ⟨samples, low⟩) s = .next { s with
        bus := { s.bus with
          run := some ⟨run.isFrame, run.count + 1, run.lowStop || !samples.getLsbD 9,
            run.age + wait⟩ }
        frameCheck := { s.frameCheck with
          receive :=
            if run.isFrame ∧ run.count < 93 then
              s.frameCheck.receive ++ [samples.extractLsb' 1 8]
            else s.frameCheck.receive }
        rxd := ⟨⟨samples, low⟩, 0⟩
        controller := { s.controller with listenTimer := 0 } }) ∧
    (samples.getLsbD 0 = false → s.bus.run = some run → 32 < gap →
      exec (.busActivity gap ⟨samples, low⟩) s =
        execAll [.runEnd gap, .busActivity 0 ⟨samples, low⟩] s) ∧
    (s.bus.run = some run → run.isFrame = true →
      run.lowStop = true ∨
        judgeRun none s.stationCount s.configTag run.count run.lowStop s.frameCheck.receive =
          .bad reason →
      exec (.runEnd gap) s = .next { s with
        bus := { s.bus with run := none }
        frameCheck := { s.frameCheck with receive := [] }
        rxd := s.rxd.later (s.rxd.idleAt + max gap 33 - s.rxd.age)
        controller := { s.controller with
          listenTimer :=
            min (s.controller.listenTimer + (s.rxd.idleAt + max gap 33 - s.rxd.age))
              (s.rxd.highAfter (s.rxd.idleAt + max gap 33 - s.rxd.age)) } }) ∧
    (f.WellFormed → s.bus.run = some run → run.isFrame = true → run.lowStop = false →
      run.count = f.length → s.frameCheck.receive = f.bytes →
      ∃ t, exec (.runEnd gap) s = .next t ∧
        t = { s with
          rxd := s.rxd.later (s.rxd.idleAt + max gap 33 - s.rxd.age)
          bus := t.bus, frameCheck := t.frameCheck, events := t.events, host := t.host
          agreement := { s.agreement with foreignSeen := t.agreement.foreignSeen }
          controller := { s.controller with
            listenTimer := t.controller.listenTimer, waitCount := t.controller.waitCount } } ∧
        t.bus.run = none ∧ t.frameCheck.receive = [] ∧
        (f.tag = s.configTag → f.sender < s.stationCount →
          t.events = s.events ∧ t.host = s.host ∧ t.agreement = s.agreement ∧
          (∀ x, f = .tally x → t.bus.sync = true ∧ t.bus.round = x.round ∧ t.bus.slot = x.sender ∧
            t.bus.slotTimer =
              16 * 32 + (run.age + (s.rxd.idleAt + max gap 33 - s.rxd.age) : Nat) ∧
            t.bus.start = .inWindow (16 * 32) ∧ t.bus.further = false ∧ t.bus.carried = false ∧
            t.frameCheck.judged = some (.intact f true) ∧ t.controller.waitCount = 0) ∧
          (∀ x, f = .join x → t.bus.sync = false ∧
            t.controller.waitCount = s.controller.waitCount)) ∧
        (f.tag = s.configTag → s.stationCount ≤ f.sender →
          t.bus.sync = false ∧ t.events = s.events ∧ t.host = s.host ∧
          t.agreement = s.agreement) ∧
        (f.tag ≠ s.configTag →
          t.bus.sync = false ∧ t.host.latches.foreign = true ∧
          t.agreement.foreignSeen = stationAdd s.agreement.foreignSeen f.sender ∧
          t.events = (if stationIn s.agreement.foreignSeen f.sender then s.events
            else arrive s.events ⟨.foreignSeen, s.bus.round, byteOf s.bus.slot, byteOf f.sender,
              0, f.tag, 0, 0, 0⟩))) ∧
    (f.WellFormed → f.bytes = first :: rest → s.bus.tx = .idle → s.bus.run = none →
      ∃ t, execAll ((.busActivity gap ⟨characterOf first, 0⟩ ::
            rest.map fun b => .busActivity 0 ⟨characterOf b, 0⟩) ++ [.runEnd 0]) s = .next t ∧
        t = { s with
          rxd := ⟨⟨characterOf (f.bytes.getLastD 0), 0⟩, 16 * 12 + 1⟩
          bus := t.bus, frameCheck := t.frameCheck, events := t.events, host := t.host
          agreement := { s.agreement with foreignSeen := t.agreement.foreignSeen }
          controller := { s.controller with
            listenTimer := t.controller.listenTimer, waitCount := t.controller.waitCount } } ∧
        t.bus.run = none ∧ t.frameCheck.receive = [] ∧
        (∀ x, f = .tally x → f.tag = s.configTag → f.sender < s.stationCount →
          t.bus.sync = true ∧ t.bus.round = x.round ∧ t.bus.slot = x.sender ∧
          t.bus.slotTimer = ((16 * (32 + 10 * f.length + 2) + 1 : Nat) : Int) ∧
          t.bus.start = .inWindow (16 * 32) ∧ t.bus.further = false ∧ t.bus.carried = false ∧
          t.frameCheck.judged = some (.intact f true) ∧ t.controller.waitCount = 0) ∧
        (f.tag = s.configTag → s.stationCount ≤ f.sender → t.bus = s.bus) ∧
        (∀ x, f = .join x → t.bus = s.bus) ∧
        (f.tag ≠ s.configTag → t.bus = s.bus ∧ t.host.latches.foreign = true ∧
          t.agreement.foreignSeen = stationAdd s.agreement.foreignSeen f.sender))

/-! ### Slot ends of a member -/

/-- R27, R32, R58, R59, R61, R63 to R65, R123, R124: an agreeing frame in another member's slot is
accepted: its contributions reach the cells, the watches with their lines (R140, R145) and the digest
in list order, the agreement count rises, ADMIT and FAREWELL change the view, ADMIT takes the joiner
out of the join queue, ends a service that may not go on, and is reported as PEER_JOINED after the
contributions' events, FAREWELL as PEER_LEFT; the timer is corrected, and the next slot begins. An
ADMIT of a member changes the join queue only. The own slot start, if it follows, is `signalOwnSlot`.
That an ADMIT is followed also for a joiner without a slot is deduced (assumption 19). -/
def Obligations.AgreeingFrameIsAccepted : Prop :=
  ∀ (s : State) (f : TallyFrame) (offset : Int),
    s.controller.state = .member → s.SlotEndsWith (.intact (.tally f) true) →
    s.bus.start = .inWindow offset → s.bus.slot ≠ s.stationNumber →
    stationIn s.agreement.view s.bus.slot = true →
    f.round = s.bus.round → f.view = s.agreement.view → f.digest = s.agreement.digest →
    ∃ t : State, exec .slotEnd s = .next t.signalOwnSlot ∧
      t.bus = ⟨true, -(offset - 16 * 32), s.nextSlot, s.nextRound, .silent, false, s.bus.run.isSome,
        s.carriedRun, [], .idle⟩ ∧
      t.frameCheck = ⟨[], [], s.frameCheck.tag, none⟩ ∧
      t.cells = contributed s s.cells f.contributions ∧
      t.watch = (f.contributions.foldl (State.applyContribution f.sender) s).watch ∧
      t.agreement.digest = digested s.agreement.digest f.sender f.contributions ∧
      t.agreement.agree = s.agreement.agree + 1 ∧ t.agreement.dissent = s.agreement.dissent ∧
      t.agreement.foreignSeen = s.agreement.foreignSeen ∧
      (f.farewell = false → ∀ n, stationIn t.agreement.view n =
        (stationIn s.agreement.view n ||
          (match f.transfer with
            | some x => decide (x.first = 28 ∧ x.joiner = n ∧ n < 16)
            | none => false))) ∧
      (f.farewell = true → f.transfer = none →
        t.agreement.view = stationRemove s.agreement.view s.bus.slot ∧
        t.host.latches.viewChanged = true) ∧
      (f.farewell = true → f.transfer = none →
        t.transfer = s.transfer ∧
        t.events = arrive (f.contributions.foldl (State.applyContribution f.sender) s).events
          ⟨.peerLeft, s.bus.round, byteOf s.bus.slot, byteOf s.bus.slot, 0, 0, 0, 0, 0⟩) ∧
      (f.farewell = false → (∀ x ∈ f.transfer, x.first ≠ 28) →
        t.transfer = s.transfer ∧ t.host = s.host ∧
        t.events = (f.contributions.foldl (State.applyContribution f.sender) s).events) ∧
      (∀ x ∈ f.transfer, f.farewell = false → x.first = 28 → x.joiner < 16 →
        t.transfer = s.transferAfterAdmit x.joiner ∧
        (stationIn s.agreement.view x.joiner = true →
          t.host = s.host ∧
          t.events = (f.contributions.foldl (State.applyContribution f.sender) s).events) ∧
        (stationIn s.agreement.view x.joiner = false →
          t.host.latches = { s.host.latches with viewChanged := true } ∧
          t.events = arrive (f.contributions.foldl (State.applyContribution f.sender) s).events
            ⟨.peerJoined, s.bus.round, byteOf s.bus.slot, byteOf x.joiner, 0, 0, 0, 0, 0⟩)) ∧
      t.config = s.config ∧ t.posts = s.posts ∧ t.controller = s.controller ∧
      t.resetn = s.resetn ∧ t.rxd = s.rxdAtSlotEnd ∧ t.host.phase = s.host.phase

/-- R21, R59, R63, R77, with 00_scope 1.1: a member that accepts a frame and the station that sent it,
having held the same table under the same plan and the same digest, hold the same table and the same
digest again when the slot has ended, whatever either of them does at its next own slot start. -/
def Obligations.ReplicasStayEqual : Prop :=
  ∀ (o p : State) (f : TallyFrame),
    o.controller.state = .member → o.SlotEndsWith (.intact (.tally f) true) →
    o.bus.slot ≠ o.stationNumber → stationIn o.agreement.view o.bus.slot = true →
    f.round = o.bus.round → f.view = o.agreement.view → f.digest = o.agreement.digest →
    p.controller.state = .member → p.SlotEndsWith (.intact (.tally f) true) →
    p.bus.slot = p.stationNumber → p.frameCheck.transmit ≠ [] →
    p.bus.loopback = p.frameCheck.transmit → p.bus.carried = false →
    readFrame p.frameCheck.transmit = some (.tally f) →
    o.cells = p.cells → o.agreement.digest = p.agreement.digest →
    (∀ i : Fin 32, o.cellMode i = p.cellMode i ∧ o.cellPolicy i = p.cellPolicy i) →
    ∃ t u, exec .slotEnd o = .next t ∧ exec .slotEnd p = .next u ∧ t.cells = u.cells ∧
      t.agreement.digest = u.agreement.digest

/-- R66 to R69: another member's slot that ends without an accepted frame: its owner is removed from the
view and PEER_DROPPED queued with the reason; a BAD slot and a frame that does not agree count as
dissent, silence and a matching JOIN do not, and the JOIN is taken up as a request. The own slot start,
if it follows, is `signalOwnSlot`. -/
def Obligations.MemberSlotNotAccepted : Prop :=
  ∀ (s : State) (v : Verdict) (reason : BadReason) (f : Frame) (x : TallyFrame) (j : JoinFrame),
    s.controller.state = .member → s.SlotEndsWith v → s.bus.slot ≠ s.stationNumber →
    stationIn s.agreement.view s.bus.slot = true →
    (v = .silent →
      exec .slotEnd s = .next ((s.withoutOwner 1 0).inNextSlot 0).signalOwnSlot) ∧
    (v = .bad reason →
      exec .slotEnd s =
        .next ((s.dissenting.withoutOwner 2 (badReasonCode reason)).inNextSlot 0).signalOwnSlot) ∧
    (v = .intact f false →
      exec .slotEnd s = .next ((s.dissenting.withoutOwner 3 0).inNextSlot 0).signalOwnSlot) ∧
    (v = .intact (.tally x) true →
      ¬ (x.round = s.bus.round ∧ x.view = s.agreement.view ∧ x.digest = s.agreement.digest) →
      exec .slotEnd s = .next ((s.dissenting.withoutOwner 3 0).inNextSlot 0).signalOwnSlot) ∧
    (v = .intact (.join j) true → s.bus.slot ∉ s.transfer.joinQueue →
      exec .slotEnd s = .next
        (({ s.withoutOwner 4 0 with transfer := { s.transfer with
            joinQueue := s.transfer.joinQueue ++ [s.bus.slot] } }).inNextSlot 0).signalOwnSlot)

/-- R70 to R73, R122, R123, R125: the slot of a station outside the view: a rival counts as dissent and
is reported; a matching JOIN is queued once; any other verdict takes the station out of the join queue;
a foreign frame sets FOREIGN and is reported once; the word of a joiner being served becomes the JOIN
with its expect value or fresh, SILENT, BAD, or OTHER for every other INTACT frame. The own slot start,
if it follows, is `signalOwnSlot`. -/
def Obligations.NonMemberSlot : Prop :=
  ∀ (s : State) (v : Verdict) (f : Frame) (x : TallyFrame) (j : JoinFrame) (reason : BadReason)
      (e : Nat) (sv : Serving) (m : Bool),
    s.controller.state = .member → s.SlotEndsWith v → s.bus.slot ≠ s.stationNumber →
    stationIn s.agreement.view s.bus.slot = false →
    ∃ t : State, exec .slotEnd s = .next t.signalOwnSlot ∧
      t = { s with
        bus := (s.inNextSlot 0).bus, frameCheck := (s.inNextSlot 0).frameCheck
        rxd := s.rxdAtSlotEnd
        agreement := { s.agreement with
          dissent := t.agreement.dissent, foreignSeen := t.agreement.foreignSeen }
        transfer := { s.transfer with
          joinQueue := t.transfer.joinQueue, serving := t.transfer.serving }
        events := t.events, host := t.host } ∧
      (v = .intact (.tally x) true →
        t.agreement.dissent = s.agreement.dissent + 1 ∧ t.host = s.host ∧
        t.events = arrive s.events ⟨.rivalSeen, s.bus.round, byteOf s.bus.slot, byteOf s.bus.slot,
          0, 0, 0, 0, 0⟩) ∧
      ((∀ y, v ≠ .intact (.tally y) true) → t.agreement.dissent = s.agreement.dissent) ∧
      (v = .intact f false →
        t.host.latches = { s.host.latches with foreign := true } ∧
        t.agreement.foreignSeen = stationAdd s.agreement.foreignSeen s.bus.slot ∧
        t.events = (if stationIn s.agreement.foreignSeen s.bus.slot then s.events
          else arrive s.events ⟨.foreignSeen, s.bus.round, byteOf s.bus.slot, byteOf s.bus.slot, 0,
            f.tag, 0, 0, 0⟩)) ∧
      ((∀ g, v ≠ .intact g false) → t.agreement.foreignSeen = s.agreement.foreignSeen) ∧
      (v = .silent ∨ (∃ r, v = .bad r) ∨ v = .intact (.join j) true →
        t.events = s.events ∧ t.host = s.host) ∧
      (v = .intact (.join j) true →
        t.transfer.joinQueue = (if s.bus.slot ∈ s.transfer.joinQueue then s.transfer.joinQueue
          else s.transfer.joinQueue ++ [s.bus.slot])) ∧
      ((∀ k, v ≠ .intact (.join k) true) →
        t.transfer.joinQueue = s.transfer.joinQueue.filter (· ≠ s.bus.slot)) ∧
      (s.transfer.serving = none → t.transfer.serving = none) ∧
      (s.transfer.serving = some sv → sv.joiner ≠ s.bus.slot → t.transfer.serving = some sv) ∧
      (s.transfer.serving = some sv → sv.joiner = s.bus.slot →
        (v = .intact (.join j) true → j.expect = some e →
          t.transfer.serving = some ⟨sv.joiner, sv.next, .join (some e)⟩) ∧
        (v = .intact (.join j) true → j.expect = none →
          t.transfer.serving = some ⟨sv.joiner, sv.next, .join none⟩) ∧
        (v = .silent → t.transfer.serving = some ⟨sv.joiner, sv.next, .silent⟩) ∧
        (v = .bad reason → t.transfer.serving = some ⟨sv.joiner, sv.next, .bad⟩) ∧
        (v = .intact (.tally x) m ∨ v = .intact (.join j) false →
          t.transfer.serving = some ⟨sv.joiner, sv.next, .other⟩))

/-! ### The own slot of a member -/

/-- R76, R79, R93, R100, R113, R115: the own-slot evaluation that finds more dissent than agreement: the
view and the counts are cleared, the SENT posts are doubted before the change of state, the Transfer
Unit's donor side is emptied, EXCLUDED is set, and the station is in LISTEN, in STANDBY when a leave was
pending, or in HALTED at the eighth failure; nothing is sent and the cells are kept. It is taken at every
own slot start (`signalOwnSlot`), and the end of any other slot before it leads there, whatever its
verdict. That the stopped slot timer and the stopped join timer read 0 are the model's choices
(assumptions 11 and 26). -/
def Obligations.EvaluationExcludes : Prop :=
  ∀ (s : State) (v : Verdict),
    s.controller.state = .member →
    (s.SlotEndsWith v → s.bus.slot ≠ s.stationNumber → s.nextSlot = s.stationNumber →
      ∃ u : State, exec .slotEnd s = .next u.signalOwnSlot ∧ u.controller = s.controller ∧
        u.bus.slot = s.stationNumber ∧ u.bus.round = s.nextRound ∧ u.posts = s.posts ∧
        u.config = s.config ∧
        (v = .silent → stationIn s.agreement.view s.bus.slot = false →
          u.agreement = s.agreement ∧ u.cells = s.cells ∧ u.events = s.events)) ∧
    (s.bus.slot = s.stationNumber → s.agreement.agree < s.agreement.dissent →
      ∃ t, s.signalOwnSlot = t ∧
        t.agreement = { s.agreement with view := 0, agree := 0, dissent := 0 } ∧
        t.posts = { s.posts with posts := s.posts.posts.filter Post.queued } ∧
        t.transfer.joinQueue = [] ∧ t.transfer.serving = none ∧
        (s.transfer.receiving = none → t.transfer.receiving = none) ∧
        t.bus = ⟨false, 0, s.bus.slot, s.bus.round, .silent, false, false, none, [], .idle⟩ ∧
        t.frameCheck = ⟨[], [], s.frameCheck.tag, none⟩ ∧
        t.cells = s.cells ∧ t.watch = s.watch ∧ t.config = s.config ∧ t.rxd = s.rxd ∧
        t.resetn = s.resetn ∧ t.pending = s.pending ∧ t.host.phase = s.host.phase ∧
        t.host.latches = ⟨s.host.latches.viewChanged || decide (s.agreement.view ≠ 0), true,
          s.host.latches.foreign⟩ ∧
        t.controller =
          ⟨if 8 ≤ s.controller.failures + 1 then .halted
            else if s.controller.pendingLeave then .standby else .listen,
            s.controller.failures + 1, 0, 0, 0, false,
            if 8 ≤ s.controller.failures + 1 ∨ s.controller.pendingLeave then false
            else s.controller.leaveAtTxEnd⟩ ∧
        t.events = arrived s.events
          ((s.posts.posts.filter fun p => !p.queued).map (fun p =>
              ⟨.postDoubtful, s.bus.round, byteOf s.stationNumber, byteOf s.stationNumber,
                byteOf p.cell.val, p.tag, 0, 0, 0⟩) ++
            (if 8 ≤ s.controller.failures + 1 then
              [stateChanged s.bus.round s.stationNumber s.stationNumber .failureLimit .halted
                (s.controller.failures + 1)]
            else
              stateChanged s.bus.round s.stationNumber s.stationNumber .excluded .listen
                  (s.controller.failures + 1) ::
                (if s.controller.pendingLeave then
                  [stateChanged s.bus.round s.stationNumber s.stationNumber .hostLeave .standby
                    (s.controller.failures + 1)]
                else []))))

/-- R54, R55, R75, R84, R90, R92, R95, R126, R129, R153: the own-slot evaluation that keeps the station,
a tie included: the SENT posts are settled, the counts and the failure count return to 0, and the frame
is built: a FAREWELL when a leave is pending, otherwise a TALLY frame with up to four of the oldest
QUEUED posts, now SENT, and with the transfer section of the donor's decision `decided`, taken at the
start of the own slot after the settlement (`DonorDecidesByWord` says what that is, and that a member
which is not the donor decides nothing); the Transfer Unit and the event queue are then as the decision
left them. It is taken at every own slot start (`signalOwnSlot`); the last clause says it of the end of
the silent slot of a station outside the view. -/
def Obligations.EvaluationKeepsAndPacks : Prop :=
  ∀ (s : State) (decided : State × Option TransferSection),
    s.controller.state = .member →
    (s.bus.slot = s.stationNumber → s.agreement.dissent ≤ s.agreement.agree →
      (∀ p ∈ s.posts.posts, ∀ stamp, p.status ≠ .sent stamp none) →
      decided = State.donorDecision { s with events := arrived s.events s.settledRecords } →
      ∃ t, s.signalOwnSlot = t ∧
        t.agreement = { s.agreement with agree := 0, dissent := 0 } ∧
        t.controller = { s.controller with failures := 0 } ∧
        t.bus = { s.bus with tx := .built, loopback := [] } ∧
        t.cells = s.cells ∧ t.watch = s.watch ∧ t.config = s.config ∧ t.host = s.host ∧
        t.rxd = s.rxd ∧ t.resetn = s.resetn ∧ t.pending = s.pending ∧
        t.posts.nextTag = s.posts.nextTag ∧
        (s.controller.pendingLeave = false →
          t.transfer = decided.1.transfer ∧ t.events = decided.1.events ∧
          t.posts.posts =
            ((s.posts.posts.filter Post.queued).take 4).map
                (fun p => { p with status := .sent s.bus.round none }) ++
              (s.posts.posts.filter Post.queued).drop 4 ∧
          t.frameCheck = { s.frameCheck with
            transmit := (Frame.tally ⟨s.stationNumber, s.bus.round, s.configTag,
              s.agreement.view, s.agreement.digest, false,
              ((s.posts.posts.filter Post.queued).take 4).map
                (fun p => ⟨p.kind, p.cell, p.tag, p.operand⟩), decided.2⟩).bytes }) ∧
        (s.controller.pendingLeave = true →
          t.events = arrived s.events s.settledRecords ∧
          t.posts.posts = s.posts.posts.filter Post.queued ∧
          t.transfer = { s.transfer with serving := none } ∧
          t.frameCheck = { s.frameCheck with
            transmit := (Frame.tally ⟨s.stationNumber, s.bus.round, s.configTag,
              s.agreement.view, s.agreement.digest, true, [], none⟩).bytes })) ∧
    (s.SlotEndsWith .silent → s.bus.slot ≠ s.stationNumber →
      stationIn s.agreement.view s.bus.slot = false → s.nextSlot = s.stationNumber →
      exec .slotEnd s = .next ({ s with
        transfer := { s.transfer with
          joinQueue := s.transfer.joinQueue.filter (· ≠ s.bus.slot)
          serving := s.transfer.serving.map fun (sv : Serving) =>
            if sv.joiner = s.bus.slot then { sv with word := .silent } else sv }
        }.inNextSlot 0).signalOwnSlot)

/-- R124, R126 to R129: the donor's own-slot decision by what it serves and by the word of the joiner's
slot: continue, restart, abandon with a reason, start with the head of the join queue, or send no
section; a member that is not the donor decides nothing. -/
def Obligations.DonorDecidesByWord : Prop :=
  ∀ (s : State) (sv : Serving) (joiner e : Nat) (rest : List Nat) (reason : Nat),
    (noneBelow s.agreement.view s.stationNumber = false → s.donorDecision = (s, none)) ∧
    (noneBelow s.agreement.view s.stationNumber = true →
      (s.transfer.serving = none → s.transfer.joinQueue = [] → s.donorDecision = (s, none)) ∧
      (s.transfer.serving = none → s.transfer.joinQueue = joiner :: rest →
        s.donorDecision =
          ({ s with transfer := { s.transfer with serving := some ⟨joiner, 4, .none⟩ } },
            some ⟨joiner, 0, #v[s.cells[0], s.cells[1], s.cells[2], s.cells[3]]⟩)) ∧
      (s.transfer.serving = some sv → sv.word = .join (some sv.next) → sv.next % 4 = 0 →
        sv.next ≤ 28 →
        s.donorDecision =
          ({ s with transfer := { s.transfer with
              serving := some ⟨sv.joiner, if sv.next = 28 then 28 else sv.next + 4, .none⟩ } },
            some ⟨sv.joiner, sv.next, #v[s.cells.getD sv.next .initial,
              s.cells.getD (sv.next + 1) .initial, s.cells.getD (sv.next + 2) .initial,
              s.cells.getD (sv.next + 3) .initial]⟩)) ∧
      (s.transfer.serving = some sv → sv.word = .join none ∨ sv.word = .join (some 0) →
        s.donorDecision =
          ({ s with transfer := { s.transfer with
              serving := some ⟨sv.joiner, 4, .none⟩ } },
            some ⟨sv.joiner, 0, #v[s.cells[0], s.cells[1], s.cells[2], s.cells[3]]⟩)) ∧
      (s.transfer.serving = some sv →
        ((sv.word = .silent ∨ sv.word = .none) ∧ reason = 1) ∨ (sv.word = .bad ∧ reason = 2) ∨
          (sv.word = .join (some e) ∧ e ≠ sv.next ∧ e ≠ 0 ∧ reason = 3) ∨
          (sv.word = .other ∧ reason = 4) →
        s.donorDecision =
          { s with
            transfer := { s.transfer with
              joinQueue := s.transfer.joinQueue.filter (· ≠ sv.joiner), serving := none }
            events := arrive s.events ⟨.joinerAbandoned, s.bus.round, byteOf s.bus.slot,
              byteOf sv.joiner, byteOf sv.next, 0, byteOf reason, 0, 0⟩ }.startService))

/-- R78, R93, R100, R113, R115: a failed loopback of a member's own frame excludes it with the cause
LOOPBACK at the end of the slot, the emptied view setting VIEW_CHANGED; its contributions are not
applied and its SENT posts are doubted. Which of the two slot numbers the Bus Interface keeps is open
(assumption 6): the statement holds for both. That the stopped slot timer and the stopped join timer
read 0 are the model's choices (assumptions 11 and 26), and so is that a LEAVE pending behind an
ordinary frame is honoured here at once (assumption 27); what counts as a run carried over into the
slot is deduced (assumption 28). -/
def Obligations.LoopbackFailureExcludes : Prop :=
  ∀ (s : State) (v : Verdict),
    s.controller.state = .member → s.SlotEndsWith v → s.bus.slot = s.stationNumber →
    s.frameCheck.transmit ≠ [] →
    (∀ f m, v ≠ .intact f m) ∨ s.bus.loopback ≠ s.frameCheck.transmit ∨ s.bus.carried = true →
    ∃ t, exec .slotEnd s = .next t ∧
      t.agreement = { s.agreement with view := 0, agree := 0, dissent := 0 } ∧
      t.posts = { s.posts with posts := s.posts.posts.filter Post.queued } ∧
      t.transfer.joinQueue = [] ∧ t.transfer.serving = none ∧
      ((t.bus.slot = s.bus.slot ∧ t.bus.round = s.bus.round) ∨
        (t.bus.slot = s.nextSlot ∧ t.bus.round = s.nextRound)) ∧
      t.bus = ⟨false, 0, t.bus.slot, t.bus.round, .silent, false, false, none, [], .idle⟩ ∧
      t.frameCheck = ⟨[], [], s.frameCheck.tag, none⟩ ∧
      t.cells = s.cells ∧ t.watch = s.watch ∧ t.config = s.config ∧
      t.host.latches = ⟨s.host.latches.viewChanged || decide (s.agreement.view ≠ 0), true,
        s.host.latches.foreign⟩ ∧ t.host.phase = s.host.phase ∧
      t.controller =
        ⟨if 8 ≤ s.controller.failures + 1 then .halted
          else if s.controller.pendingLeave then .standby else .listen,
          s.controller.failures + 1, 0, 0, 0, false,
          if 8 ≤ s.controller.failures + 1 ∨ s.controller.pendingLeave then false
          else s.controller.leaveAtTxEnd⟩ ∧
      t.events = arrived s.events
        ((s.posts.posts.filter fun p => !p.queued).map (fun p =>
            ⟨.postDoubtful, s.bus.round, byteOf s.bus.slot, byteOf s.stationNumber,
              byteOf p.cell.val, p.tag, 0, 0, 0⟩) ++
          (if 8 ≤ s.controller.failures + 1 then
            [stateChanged s.bus.round s.bus.slot s.stationNumber .failureLimit .halted
              (s.controller.failures + 1)]
          else
            stateChanged s.bus.round s.bus.slot s.stationNumber .loopback .listen
                (s.controller.failures + 1) ::
              (if s.controller.pendingLeave then
                [stateChanged s.bus.round s.bus.slot s.stationNumber .hostLeave .standby
                  (s.controller.failures + 1)]
              else [])))

/-- R64, R77, R91, R113, R123, R124: a member's own frame heard back intact: its contributions reach the
cells and the digest in list order and each SENT post keeps its own result; neither count changes; an
ADMIT adds the joiner to the view, takes it out of the join queue, ends its service and is reported as
PEER_JOINED after the contributions' events; a FAREWELL empties the view and moves the station to
STANDBY, with VIEW_CHANGED set. The contributions' watch entries and IND lines follow (R140, R145). Intact
means by R35 that no run was carried over into the slot, too (assumption 28); after the FAREWELL the slot
and round number are those of the slot that ended or of the next one, whichever reading holds (assumption
6), and the cleared timers are the model's choices (assumptions 11 and 26). -/
def Obligations.OwnFrameIsActedOn : Prop :=
  ∀ (s : State) (v : Frame) (m : Bool) (f : TallyFrame) (before after : List Contribution)
      (c : Contribution) (p : Post) (stamp : Round) (r : Option PostResult),
    s.controller.state = .member → s.SlotEndsWith (.intact v m) →
    s.bus.slot = s.stationNumber → s.nextSlot ≠ s.stationNumber →
    s.frameCheck.transmit ≠ [] → s.bus.loopback = s.frameCheck.transmit →
    s.bus.carried = false → readFrame s.frameCheck.transmit = some (.tally f) →
    ∃ t, exec .slotEnd s = .next t ∧
      t.cells = contributed s s.cells f.contributions ∧
      t.watch = (f.contributions.foldl (State.applyContribution f.sender) s).watch ∧
      t.agreement.digest = digested s.agreement.digest f.sender f.contributions ∧
      t.config = s.config ∧ t.posts.nextTag = s.posts.nextTag ∧
      t.posts.posts.map Post.tag = s.posts.posts.map Post.tag ∧
      (f.farewell = false →
        t.bus = (s.inNextSlot 0).bus ∧
        t.frameCheck = ⟨[], [], s.frameCheck.tag, none⟩ ∧
        t.controller = s.controller ∧
        t.agreement.agree = s.agreement.agree ∧ t.agreement.dissent = s.agreement.dissent ∧
        (∀ n, stationIn t.agreement.view n =
          (stationIn s.agreement.view n ||
            (match f.transfer with
              | some x => decide (x.first = 28 ∧ x.joiner = n ∧ n < 16)
              | none => false)))) ∧
      (f.farewell = false → (∀ x ∈ f.transfer, x.first ≠ 28) →
        t.transfer = s.transfer ∧ t.host = s.host ∧
        t.events = (f.contributions.foldl (State.applyContribution f.sender) s).events) ∧
      (∀ x ∈ f.transfer, f.farewell = false → x.first = 28 → x.joiner < 16 →
        t.transfer = s.transferAfterAdmit x.joiner ∧
        (stationIn s.agreement.view x.joiner = false →
          t.host.latches = { s.host.latches with viewChanged := true } ∧
          t.events = arrive (f.contributions.foldl (State.applyContribution f.sender) s).events
            ⟨.peerJoined, s.bus.round, byteOf s.bus.slot, byteOf x.joiner, 0, 0, 0, 0, 0⟩)) ∧
      (f.contributions = before ++ c :: after → (∀ d ∈ after, d.tag ≠ c.tag) →
        p ∈ t.posts.posts → p.tag = c.tag → p.status = .sent stamp r →
        r = some
          { outcome := ((contributed s s.cells before)[c.cell].contribute (s.cellMode c.cell)
              (s.cellPolicy c.cell) c.kind c.operand).2
            value := ((contributed s s.cells before)[c.cell].contribute (s.cellMode c.cell)
              (s.cellPolicy c.cell) c.kind c.operand).1.value
            flags := ((contributed s s.cells before)[c.cell].contribute (s.cellMode c.cell)
              (s.cellPolicy c.cell) c.kind c.operand).1.flags }) ∧
      (f.farewell = true → f.contributions = [] → f.transfer = none →
        t.agreement = { s.agreement with view := 0, agree := 0, dissent := 0 } ∧
        t.posts = s.posts ∧ t.transfer = ⟨[], none, none⟩ ∧
        ((t.bus.slot = s.bus.slot ∧ t.bus.round = s.bus.round) ∨
          (t.bus.slot = s.nextSlot ∧ t.bus.round = s.nextRound)) ∧
        t.bus = ⟨false, 0, t.bus.slot, t.bus.round, .silent, false, false, none, [], .idle⟩ ∧
        t.host.latches = { s.host.latches with
          viewChanged := s.host.latches.viewChanged || decide (s.agreement.view ≠ 0) } ∧
        t.frameCheck = ⟨[], [], s.frameCheck.tag, none⟩ ∧
        t.controller = ⟨.standby, s.controller.failures, 0, 0, 0, false, false⟩ ∧
        t.events = arrive s.events (stateChanged s.bus.round s.bus.slot s.stationNumber
          .hostLeave .standby s.controller.failures))

/-! ### Listening, founding and joining -/

/-- R28, R60, R80, R90, R100, R103, R104, R149: founding, with RXD high for the whole listen time: round 0
at the own slot, MEMBER, a view of the station alone, digest 0, the cells as they stand, every level
watch brought up to date with WATCH_ON and WATCH_OFF in order of entry index after the STATE_CHANGED, and
the first frame built with up to four QUEUED posts; the failure count is kept. The wait count, which
R104 does not name, is kept (assumption 20); that the command passes the time to its own instant is the
model's choice (assumption 5), and so is that a run still in progress is discarded unjudged
(assumption 30); the level of RXD between samples is presumed (assumption 12). -/
def Obligations.ExpiryFounds : Prop :=
  ∀ (s : State), s.Lawful → s.controller.state = .listen →
    ∃ t, exec .listenTimerExpiry s = .next t ∧
      t.bus = ⟨true, 0, s.stationNumber, 0, .silent, false, false, none, [], .built⟩ ∧
      t.controller = { s.controller with state := .member, listenTimer := 0 } ∧
      t.agreement = ⟨stationOnly s.stationNumber, 0, 0, 0, s.agreement.foreignSeen⟩ ∧
      t.cells = s.cells ∧ t.config = s.config ∧ t.transfer = s.transfer ∧
      t.host.latches = { s.host.latches with viewChanged := true } ∧
      t.posts = ⟨(s.posts.posts.take 4).map (fun p => { p with status := .sent 0 none }) ++
        s.posts.posts.drop 4, s.posts.nextTag⟩ ∧
      t.frameCheck = ⟨[], (Frame.tally ⟨s.stationNumber, 0, s.configTag,
          stationOnly s.stationNumber, 0, false,
          (s.posts.posts.take 4).map (fun p => ⟨p.kind, p.cell, p.tag, p.operand⟩),
          none⟩).bytes, s.frameCheck.tag, none⟩ ∧
      (∀ i : Fin 16, t.watch.entries[i] = s.watch.entries[i].map fun w =>
        { w with
          holds := conditionHolds (s.cellMode w.cell) w.condition w.threshold
            s.cells[w.cell] }) ∧
      (∀ x : Fin 4, t.watch.lines[x] = true ↔
        ∃ i : Fin 16, entryDrives x t.watch.entries[i] = true) ∧
      t.events = arrived s.events
        (stateChanged 0 s.stationNumber s.stationNumber .founded .member s.controller.failures ::
          s.retested 0 s.stationNumber s.cells) ∧
      s.listenLimit ≤ t.rxd.highAfter 0

/-- R28, R32, R106 to R108: a slot end in synchronised LISTEN: the wait count rises up to N; a matching
frame of the expected round corrects the timer, one of another round also sets the round and restarts
the count at 1; a foreign frame goes to the foreign-seen handling. R107, R108: at every own slot start
(`signalOwnSlot`), whatever slot end led there, a listener sends nothing while its wait count is below N;
with the wait over it moves to JOINING and has a fresh JOIN sent, the first of its join timer. The listen
timer's reading and the wait count kept in JOINING are the model's (assumptions 5, 12 and 20). -/
def Obligations.ListenerWatchesTheSchedule : Prop :=
  ∀ (s : State) (v : Verdict) (f : Frame) (waiting : State),
    s.controller.state = .listen →
    (s.bus.slot = s.stationNumber →
      (s.controller.waitCount < s.stationCount → s.signalOwnSlot = s) ∧
      (s.stationCount ≤ s.controller.waitCount →
        s.signalOwnSlot = { s with
          bus := { s.bus with tx := .built, loopback := [] }
          frameCheck := { s.frameCheck with transmit := (Frame.join ⟨s.stationNumber,
            s.bus.round, s.configTag, none⟩).bytes }
          controller := { s.controller with state := .joining, listenTimer := 0, joinTimer := 1 }
          events := arrive s.events (stateChanged s.bus.round s.stationNumber s.stationNumber
            .synchronised .joining s.controller.failures) })) ∧
    (s.SlotEndsWith v →
      waiting = { s with controller := { s.controller with
        listenTimer :=
          min (s.controller.listenTimer + ((s.slotSixteenths : Int) - s.bus.slotTimer).toNat)
            (s.rxdAtSlotEnd.highAfter 0)
        waitCount := min (s.controller.waitCount + 1) s.stationCount } } →
      (v = .silent ∨ (∃ r, v = .bad r) →
        exec .slotEnd s = .next (waiting.inNextSlot 0).signalOwnSlot) ∧
      (v = .intact f true → f.round = s.bus.round →
        exec .slotEnd s = .next (waiting.inNextSlot s.correction).signalOwnSlot) ∧
      (v = .intact f true → f.round ≠ s.bus.round →
        exec .slotEnd s = .next
          ({ waiting with
            bus := { s.bus with round := f.round }
            controller := { waiting.controller with waitCount := 1 }
          }.inNextSlot s.correction).signalOwnSlot) ∧
      (v = .intact f false →
        exec .slotEnd s =
          .next ((waiting.foreignHeard s.bus.slot f.tag).inNextSlot 0).signalOwnSlot) ∧
      (v = .silent → s.nextSlot = s.stationNumber →
        ∃ t, exec .slotEnd s = .next t ∧
          t = { s with
            bus := t.bus, frameCheck := t.frameCheck, controller := t.controller
            rxd := s.rxdAtSlotEnd, events := t.events } ∧
          (s.controller.waitCount + 1 < s.stationCount →
            t.bus = (s.inNextSlot 0).bus ∧ t.frameCheck = (s.inNextSlot 0).frameCheck ∧
            t.controller.state = .listen ∧ t.controller.waitCount = s.controller.waitCount + 1 ∧
            t.events = s.events) ∧
          (s.stationCount ≤ s.controller.waitCount + 1 →
            t.bus = ⟨true, 0, s.stationNumber, s.nextRound, .silent, false, s.bus.run.isSome,
              s.carriedRun, [], .built⟩ ∧
            t.frameCheck = ⟨[], (Frame.join ⟨s.stationNumber, s.nextRound, s.configTag,
              none⟩).bytes, s.frameCheck.tag, none⟩ ∧
            t.controller = { s.controller with
              state := .joining, listenTimer := 0, waitCount := s.stationCount, joinTimer := 1 } ∧
            t.events = arrive s.events (stateChanged s.nextRound s.stationNumber s.stationNumber
              .synchronised .joining s.controller.failures))))

/-- R108, R115, R135: the own slot start of a joiner, after whatever slot end led there
(`signalOwnSlot`): in JOINING a fresh JOIN while the join timer is below 8; at 8 the failure JOIN_TIMEOUT,
which sends nothing and leads to LISTEN, or to HALTED at the eighth failure; in RECEIVING a JOIN that
carries the next expected index. The last clauses say it of the end of a silent slot. That the stopped
slot timer and the stopped join timer read 0 are the model's choices (assumptions 11 and 26). -/
def Obligations.JoinerAsksOrTimesOut : Prop :=
  ∀ (s : State) (r : Receiving),
    (s.bus.slot = s.stationNumber →
      (s.controller.state = .receiving → s.transfer.receiving = some r →
        s.signalOwnSlot = { s with
          bus := { s.bus with tx := .built, loopback := [] }
          frameCheck := { s.frameCheck with transmit := (Frame.join ⟨s.stationNumber, s.bus.round,
            s.configTag, some r.next⟩).bytes } }) ∧
      (s.controller.state = .joining → s.controller.joinTimer < 8 →
        s.signalOwnSlot = { s with
          bus := { s.bus with tx := .built, loopback := [] }
          frameCheck := { s.frameCheck with transmit := (Frame.join ⟨s.stationNumber, s.bus.round,
            s.configTag, none⟩).bytes }
          controller := { s.controller with joinTimer := s.controller.joinTimer + 1 } }) ∧
      (s.controller.state = .joining → 8 ≤ s.controller.joinTimer →
        (s.controller.failures + 1 < 8 →
          s.signalOwnSlot = { s with
            bus := ⟨false, 0, s.bus.slot, s.bus.round, .silent, false, false, none, [], .idle⟩
            frameCheck := ⟨[], [], s.frameCheck.tag, none⟩
            controller := { s.controller with
              state := .listen, failures := s.controller.failures + 1, listenTimer := 0,
              waitCount := 0, joinTimer := 0 }
            events := arrive s.events (stateChanged s.bus.round s.stationNumber s.stationNumber
              .joinTimeout .listen (s.controller.failures + 1)) }) ∧
        (8 ≤ s.controller.failures + 1 →
          s.signalOwnSlot = { s with
            bus := ⟨false, 0, s.bus.slot, s.bus.round, .silent, false, false, none, [], .idle⟩
            frameCheck := ⟨[], [], s.frameCheck.tag, none⟩
            controller := ⟨.halted, s.controller.failures + 1, 0, 0, 0, false, false⟩
            events := arrive s.events (stateChanged s.bus.round s.stationNumber s.stationNumber
              .failureLimit .halted (s.controller.failures + 1)) }))) ∧
    (s.SlotEndsWith .silent → s.bus.slot ≠ s.stationNumber → s.nextSlot = s.stationNumber →
      (s.controller.state = .receiving → s.transfer.receiving = some r → s.bus.slot ≠ r.donor →
        exec .slotEnd s = .next { s with
          bus := ⟨true, 0, s.stationNumber, s.nextRound, .silent, false, s.bus.run.isSome,
            s.carriedRun, [], .built⟩
          frameCheck := ⟨[], (Frame.join ⟨s.stationNumber, s.nextRound, s.configTag,
            some r.next⟩).bytes, s.frameCheck.tag, none⟩
          rxd := s.rxdAtSlotEnd
          transfer := { s.transfer with
            receiving := some { r with
              followed :=
                if stationIn r.followed s.bus.slot then stationRemove r.followed s.bus.slot
                else r.followed } } }) ∧
      (s.controller.state = .joining → s.controller.joinTimer < 8 →
        exec .slotEnd s = .next { s with
          rxd := s.rxdAtSlotEnd
          bus := ⟨true, 0, s.stationNumber, s.nextRound, .silent, false, s.bus.run.isSome,
            s.carriedRun, [], .built⟩
          frameCheck := ⟨[], (Frame.join ⟨s.stationNumber, s.nextRound, s.configTag,
            none⟩).bytes, s.frameCheck.tag, none⟩
          controller := { s.controller with joinTimer := s.controller.joinTimer + 1 } }) ∧
      (s.controller.state = .joining → 8 ≤ s.controller.joinTimer →
        exec .slotEnd s = .next (s.inNextSlot 0).signalOwnSlot))

/-- R35, R56, R110, R115: the end of a joiner's own slot: a JOIN heard back intact has no effect; a failed
loopback, a run carried over into the slot among its causes (assumption 28), empties the receiving
record and leads to LISTEN, or to HALTED at the eighth failure. The two waiting-LEAVE flags (R113,
R114), which no reachable state has set here, keep their values in LISTEN and are cleared in HALTED.
The slot and round number are those of the slot that ended or of the next one, whichever reading holds
(assumption 6). That the stopped slot timer and the stopped join timer read 0 are the model's choices
(assumptions 11 and 26). -/
def Obligations.JoinLoopbackDecides : Prop :=
  ∀ (s : State) (v : Verdict),
    s.controller.state = .joining ∨ s.controller.state = .receiving →
    s.SlotEndsWith v → s.bus.slot = s.stationNumber → s.frameCheck.transmit ≠ [] →
    s.nextSlot ≠ s.stationNumber →
    ((∃ f m, v = .intact f m) → s.bus.loopback = s.frameCheck.transmit → s.bus.carried = false →
      readFrame s.frameCheck.transmit ≠ none → exec .slotEnd s = .next (s.inNextSlot 0)) ∧
    ((∀ f m, v ≠ .intact f m) ∨ s.bus.loopback ≠ s.frameCheck.transmit ∨ s.bus.carried = true →
      ∃ t, exec .slotEnd s = .next t ∧
        t = { s with
          bus := ⟨false, 0, t.bus.slot, t.bus.round, .silent, false, false, none, [], .idle⟩
          frameCheck := ⟨[], [], s.frameCheck.tag, none⟩
          controller := t.controller, events := t.events, rxd := s.rxdAtSlotEnd
          transfer := { s.transfer with receiving := none } } ∧
        ((t.bus.slot = s.bus.slot ∧ t.bus.round = s.bus.round) ∨
          (t.bus.slot = s.nextSlot ∧ t.bus.round = s.nextRound)) ∧
        (s.controller.failures + 1 < 8 →
          t.controller = { s.controller with
            state := .listen, failures := s.controller.failures + 1, listenTimer := 0,
            waitCount := 0, joinTimer := 0 } ∧
          t.events = arrive s.events (stateChanged s.bus.round s.bus.slot s.stationNumber
            .loopback .listen (s.controller.failures + 1))) ∧
        (8 ≤ s.controller.failures + 1 →
          t.controller = ⟨.halted, s.controller.failures + 1, 0, 0, 0, false, false⟩ ∧
          t.events = arrive s.events (stateChanged s.bus.round s.bus.slot s.stationNumber
            .failureLimit .halted (s.controller.failures + 1))))

/-! ### Transfer -/

/-- R23, R32, R60, R109, R130, R131: the slot of another station ends in JOINING. The first transfer frame
for the station: RECEIVING with the frame's view, sender and digest, cells 0 to 3 installed, the frame's
contributions applied to them only and folded into the digest whole, the round and the timer corrected.
A transfer frame for it with another first index, and any other matching frame of the station's round,
corrects the timer only; a matching frame of another round, a BAD and a silent slot do nothing; a foreign
frame goes to the foreign-seen handling. The own slot start, if it follows, is `signalOwnSlot`. The stamp
of the event, from before the correction of the round, is deduced (assumption 18); that a transfer frame
with another first index corrects the timer whatever its round (assumption 25), and the figure 0 of the
stopped join timer (assumption 26), are the model's choices. -/
def Obligations.TransferFrameBeginsReceiving : Prop :=
  ∀ (s : State) (v : Verdict) (f : TallyFrame) (g : Frame) (x : TransferSection) (reason : BadReason),
    s.controller.state = .joining → s.SlotEndsWith v → s.bus.slot ≠ s.stationNumber →
    (v = .intact (.tally f) true → f.transfer = some x → x.joiner = s.stationNumber →
      x.first ≠ 0 → exec .slotEnd s = .next (s.inNextSlot s.correction).signalOwnSlot) ∧
    (v = .intact g true →
      (∀ y z, g = .tally y → y.transfer = some z → z.joiner ≠ s.stationNumber) →
      exec .slotEnd s = .next (s.inNextSlot
        (if g.round = s.bus.round then s.correction else 0)).signalOwnSlot) ∧
    (v = .intact g false →
      exec .slotEnd s =
        .next ((s.foreignHeard s.bus.slot g.tag).inNextSlot 0).signalOwnSlot) ∧
    (v = .bad reason ∨ v = .silent →
      exec .slotEnd s = .next (s.inNextSlot 0).signalOwnSlot) ∧
    (v = .intact (.tally f) true → f.transfer = some x → x.joiner = s.stationNumber →
      x.first = 0 →
      exec .slotEnd s = .next (State.signalOwnSlot { s with
      bus := ⟨true, -s.correction, s.nextSlot,
        if s.bus.slot + 1 < s.stationCount then f.round else f.round + 1, .silent, false,
        s.bus.run.isSome, s.carriedRun, [], .idle⟩
      frameCheck := ⟨[], [], s.frameCheck.tag, none⟩
      rxd := s.rxdAtSlotEnd
      agreement := { s.agreement with digest := digested f.digest f.sender f.contributions }
      cells := contributed s
        ((((s.cells.set 0 x.cells[0]).set 1 x.cells[1]).set 2 x.cells[2]).set 3 x.cells[3])
        (f.contributions.filter fun c => c.cell.val < 4)
      controller := { s.controller with state := .receiving, joinTimer := 0 }
      transfer := { s.transfer with receiving := some ⟨f.view, 4, f.sender⟩ }
      events := arrive s.events (stateChanged s.bus.round s.bus.slot s.stationNumber
        .transferBegun .receiving s.controller.failures) }))

/-- R23, R131 to R133: an agreeing donor frame with the expected section, short of the last: four more
cells installed, the contributions to received cells applied, the digest advanced over all of them, and
the timer corrected. The own slot start, if it follows, is `signalOwnSlot`. -/
def Obligations.DonorFrameIsInstalled : Prop :=
  ∀ (s : State) (r : Receiving) (f : TallyFrame) (x : TransferSection) (offset : Int),
    s.controller.state = .receiving → s.SlotEndsWith (.intact (.tally f) true) →
    s.bus.start = .inWindow offset → s.bus.slot ≠ s.stationNumber →
    s.transfer.receiving = some r → s.bus.slot = r.donor →
    f.round = s.bus.round → f.view = r.followed → f.digest = s.agreement.digest →
    f.transfer = some x → x.joiner = s.stationNumber → x.first = r.next → r.next ≤ 27 →
    exec .slotEnd s = .next (State.signalOwnSlot { s with
      bus := (s.inNextSlot (offset - 16 * 32)).bus
      frameCheck := (s.inNextSlot 0).frameCheck
      rxd := s.rxdAtSlotEnd
      agreement := { s.agreement with
        digest := digested s.agreement.digest f.sender f.contributions }
      cells := contributed s
        ((((s.cells.setIfInBounds r.next x.cells[0]).setIfInBounds (r.next + 1)
          x.cells[1]).setIfInBounds (r.next + 2) x.cells[2]).setIfInBounds (r.next + 3)
            x.cells[3])
        (f.contributions.filter fun c => c.cell.val < r.next + 4)
      transfer := { s.transfer with receiving := some { r with next := r.next + 4 } } })

/-- R80, R111, R133, R149: the admitting donor frame: the last four cells installed, every contribution
applied, MEMBER with the followed view and the station itself, both counts 0, the digest kept, the
receiving record emptied, and every level watch brought up to date, with WATCH_ON and WATCH_OFF in order
of entry index after the STATE_CHANGED, stamped like it; the failure count is kept. The own slot start,
if it follows, is `signalOwnSlot`. -/
def Obligations.LastDonorFrameAdmits : Prop :=
  ∀ (s : State) (r : Receiving) (f : TallyFrame) (x : TransferSection) (offset : Int),
    s.Lawful → s.controller.state = .receiving →
    s.SlotEndsWith (.intact (.tally f) true) →
    s.bus.start = .inWindow offset → s.bus.slot ≠ s.stationNumber →
    s.transfer.receiving = some r → s.bus.slot = r.donor →
    f.round = s.bus.round → f.view = r.followed → f.digest = s.agreement.digest →
    f.transfer = some x → x.joiner = s.stationNumber → x.first = 28 → r.next = 28 →
    ∃ t : State, exec .slotEnd s = .next t.signalOwnSlot ∧
      t.bus = (s.inNextSlot (offset - 16 * 32)).bus ∧
      t.frameCheck = (s.inNextSlot 0).frameCheck ∧
      t.cells = contributed s
        ((((s.cells.set 28 x.cells[0]).set 29 x.cells[1]).set 30 x.cells[2]).set 31 x.cells[3])
        f.contributions ∧
      t.agreement = ⟨stationAdd r.followed s.stationNumber,
        digested s.agreement.digest f.sender f.contributions, 0, 0, s.agreement.foreignSeen⟩ ∧
      t.controller = { s.controller with state := .member } ∧
      t.transfer = { s.transfer with receiving := none } ∧
      t.posts = s.posts ∧ t.config = s.config ∧
      t.host.latches = { s.host.latches with viewChanged := true } ∧
      (∀ i : Fin 16, t.watch.entries[i] = s.watch.entries[i].map fun w =>
        { w with
          holds := conditionHolds (s.cellMode w.cell) w.condition w.threshold
            t.cells[w.cell] }) ∧
      (∀ l : Fin 4, t.watch.lines[l] = true ↔
        ∃ i : Fin 16, entryDrives l t.watch.entries[i] = true) ∧
      t.events = arrived s.events
        (stateChanged s.bus.round s.bus.slot s.stationNumber .admitted .member
            s.controller.failures ::
          s.retested s.bus.round s.bus.slot t.cells)

/-- R111, R115, R132 to R134: what aborts a transfer: the receiving record is emptied, cells and digest
are kept, and a failure leads to JOINING with the join timer at 0, or to HALTED at the eighth. A foreign
frame also goes to the foreign-seen handling, `heard`, whose event stands first by the model's choice
(assumption 14). The own slot start, if it follows, is `signalOwnSlot`: R108's first step of JOINING,
nothing in HALTED. In HALTED the slot and round number are those of the slot that ended or of the next
one, whichever reading holds (assumption 6), and the stopped timers read 0 (assumptions 11 and 26). -/
def Obligations.TransferAborts : Prop :=
  ∀ (s heard : State) (v : Verdict) (r : Receiving) (reason : BadReason) (f : TallyFrame)
      (j : JoinFrame) (g : Frame),
    s.controller.state = .receiving → s.SlotEndsWith v → s.bus.slot ≠ s.stationNumber →
    s.transfer.receiving = some r →
    heard = (if v = .intact g false then s.foreignHeard s.bus.slot g.tag else s) →
    (s.bus.slot = r.donor ∧
        (v = .silent ∨ v = .bad reason ∨ v = .intact (.join j) true ∨ v = .intact g false ∨
          (v = .intact (.tally f) true ∧
            ¬ (f.round = s.bus.round ∧ f.view = r.followed ∧ f.digest = s.agreement.digest ∧
              ∃ x ∈ f.transfer, x.joiner = s.stationNumber ∧ x.first = r.next)))) ∨
      (s.bus.slot ≠ r.donor ∧ stationIn r.followed s.bus.slot = true ∧
        (v = .bad reason ∨ v = .intact g false ∨
          (v = .intact (.tally f) true ∧
            ¬ (f.round = s.bus.round ∧ f.view = r.followed ∧
              f.digest = s.agreement.digest)))) →
    ∃ t : State, exec .slotEnd s = .next t.signalOwnSlot ∧
      t.transfer = { s.transfer with receiving := none } ∧
      t.agreement = heard.agreement ∧ t.cells = s.cells ∧ t.posts = s.posts ∧
      t.watch = s.watch ∧ t.config = s.config ∧ t.host = heard.host ∧ t.rxd = s.rxdAtSlotEnd ∧
      t.resetn = s.resetn ∧ t.pending = s.pending ∧
      t.frameCheck = (s.inNextSlot 0).frameCheck ∧
      (s.controller.failures + 1 < 8 →
        t.bus = (s.inNextSlot 0).bus ∧
        t.controller = { s.controller with
          state := .joining, failures := s.controller.failures + 1, joinTimer := 0 } ∧
        t.events = arrive heard.events (stateChanged s.bus.round s.bus.slot s.stationNumber
          .transferAbort .joining (s.controller.failures + 1))) ∧
      (8 ≤ s.controller.failures + 1 →
        ((t.bus.slot = s.bus.slot ∧ t.bus.round = s.bus.round) ∨
          (t.bus.slot = s.nextSlot ∧ t.bus.round = s.nextRound)) ∧
        t.bus = ⟨false, 0, t.bus.slot, t.bus.round, .silent, false, false, none, [], .idle⟩ ∧
        t.controller = ⟨.halted, s.controller.failures + 1, 0, 0, 0, false, false⟩ ∧
        t.events = arrive heard.events (stateChanged s.bus.round s.bus.slot s.stationNumber
          .failureLimit .halted (s.controller.failures + 1)))

/-- R131, R132: the slot of a station other than the donor ends in RECEIVING. In the followed view: an
agreeing frame is followed, its contributions reaching received cells only, its marks ADMIT and FAREWELL
the followed view, and the timer is corrected; a silent slot and a matching JOIN remove the station.
Outside the followed view nothing of the receiving record changes: a matching JOIN of the station's round
corrects the timer, a foreign frame goes to the foreign-seen handling, every other slot is passed over.
Nothing else of the station changes; the own slot start, if it follows, is `signalOwnSlot`. That a
matching JOIN of a followed station corrects no timer is deduced (assumption 17). -/
def Obligations.FollowedStationIsFollowed : Prop :=
  ∀ (s : State) (v : Verdict) (r : Receiving) (f : TallyFrame) (g : Frame) (j : JoinFrame)
      (reason : BadReason),
    s.controller.state = .receiving → s.SlotEndsWith v → s.bus.slot ≠ s.stationNumber →
    s.transfer.receiving = some r → s.bus.slot ≠ r.donor →
    (stationIn r.followed s.bus.slot = true →
      (v = .silent ∨ v = .intact (.join j) true →
        exec .slotEnd s = .next ({ s with
          transfer := { s.transfer with
            receiving := some { r with followed := stationRemove r.followed s.bus.slot } }
        }.inNextSlot 0).signalOwnSlot) ∧
      (v = .intact (.tally f) true → f.round = s.bus.round → f.view = r.followed →
        f.digest = s.agreement.digest → f.sender = s.bus.slot →
        exec .slotEnd s = .next ({ s with
          agreement := { s.agreement with
            digest := digested s.agreement.digest f.sender f.contributions }
          cells := contributed s s.cells (f.contributions.filter fun c => c.cell.val < r.next)
          transfer := { s.transfer with
            receiving := some { r with
              followed :=
                if f.farewell then
                  stationRemove
                    (match f.transfer with
                      | some x =>
                        if x.first = 28 then stationAdd r.followed x.joiner else r.followed
                      | none => r.followed) s.bus.slot
                else
                  match f.transfer with
                  | some x => if x.first = 28 then stationAdd r.followed x.joiner else r.followed
                  | none => r.followed } }
        }.inNextSlot s.correction).signalOwnSlot)) ∧
    (stationIn r.followed s.bus.slot = false →
      (v = .intact (.join j) true →
        exec .slotEnd s = .next (s.inNextSlot
          (if j.round = s.bus.round then s.correction else 0)).signalOwnSlot) ∧
      (v = .intact (.tally f) true ∨ v = .bad reason ∨ v = .silent →
        exec .slotEnd s = .next (s.inNextSlot 0).signalOwnSlot) ∧
      (v = .intact g false →
        exec .slotEnd s =
          .next ((s.foreignHeard s.bus.slot g.tag).inNextSlot 0).signalOwnSlot))

/-! ### Watches -/

/-- R21, R139, R140, R145 to R148: a contribution applied to its cell reaches the watches in MEMBER: each
level entry on the cell takes the state its test finds, and the events are queued in order of entry
index; in every other state no entry, line or event changes. -/
def Obligations.ContributionReachesWatches : Prop :=
  ∀ (s : State) (origin : Nat) (c : Contribution) (after : Cell),
    after = (s.cells[c.cell].contribute (s.cellMode c.cell) (s.cellPolicy c.cell) c.kind
      c.operand).1 →
    (s.controller.state ≠ .member →
      s.applyToCell origin c = { s with cells := s.cells.set c.cell after }) ∧
    (s.controller.state = .member → s.WatchLaw →
      s.applyToCell origin c = { s with
        cells := s.cells.set c.cell after, watch := (s.applyToCell origin c).watch
        events := arrived s.events (watchEntries.filterMap fun i =>
          match s.watch.entries[i] with
          | none => none
          | some w =>
            if w.cell ≠ c.cell then none
            else if w.condition = .change then
              some ⟨.watchChange, s.bus.round, byteOf s.bus.slot, byteOf origin,
                byteOf c.cell.val, byteOf i.val, byteOf (kindCode c.kind), after.value, 0⟩
            else if conditionHolds (s.cellMode c.cell) w.condition w.threshold after = w.holds
              then none
            else
              some ⟨if w.holds then .watchOff else .watchOn, s.bus.round, byteOf s.bus.slot, 0,
                byteOf c.cell.val, byteOf i.val, 0, after.value, flagsByte after.flags⟩) } ∧
      (∀ i : Fin 16, (s.applyToCell origin c).watch.entries[i] =
        s.watch.entries[i].map fun w =>
          if w.cell = c.cell then
            { w with holds := conditionHolds (s.cellMode c.cell) w.condition w.threshold after }
          else w) ∧
      (∀ x : Fin 4, (s.applyToCell origin c).watch.lines[x] = true ↔
        ∃ i : Fin 16, entryDrives x (s.applyToCell origin c).watch.entries[i] = true))

/-! ### Laws every step keeps -/

/-- R154: the event queue never holds more than 32 records, and with 32 its newest is an EVENTS_LOST
record: every step keeps it, from any state that has it. -/
def Obligations.EventLawKept : Prop :=
  ∀ (s t : State), s.EventLaw → step s = .next t → t.EventLaw

/-- R58, R74, R115: every step from a lawful state keeps the laws of the view, of the agreement and
dissent counts and of the failure count. -/
def Obligations.ViewAndCountLawsKept : Prop :=
  ∀ (s t : State), s.Lawful → step s = .next t → t.ViewLaw ∧ t.CountLaw ∧ t.FailureLaw

/-- R82, R95: every step from a lawful state keeps the law of the post queue. -/
def Obligations.PostLawKept : Prop :=
  ∀ (s t : State), s.Lawful → step s = .next t → t.PostLaw

/-- R120, R121, R124: every step from a lawful state keeps the laws of the join queue, of the serving
record and of the receiving record. -/
def Obligations.TransferLawsKept : Prop :=
  ∀ (s t : State), s.Lawful → step s = .next t →
    t.JoinLaw ∧ t.ServingLaw ∧ t.ReceivingLaw

/-- R137, R138, R140: every step from a lawful state keeps the law of the watch table and of the
indicator lines. -/
def Obligations.WatchLawKept : Prop :=
  ∀ (s t : State), s.Lawful → step s = .next t → t.WatchLaw

/-- R34, R54, R55, R114: every step from a lawful state keeps the law of what the station may send and
when: sound frames of its own, in its own slot, never a JOIN frame in MEMBER nor a TALLY frame outside
it; and R35: the loopback capture never holds more than 93 characters. -/
def Obligations.SendLawKept : Prop :=
  ∀ (s t : State), s.Lawful → step s = .next t → t.SendLaw ∧ t.LeaveLaw

/-- R26 to R28, R49, R99, R103, R108, R116, R163, R168, R176: every step from a lawful state keeps the
laws of the configuration, of the schedule, of the passive states, of the timers and of the host port.
R37: in LISTEN the listen timer never exceeds the time RXD has been high. That the stopped join timer
reads 0 also in RECEIVING and LISTEN is the model's choice (assumption 26), and the level of RXD between
samples is presumed (assumption 12). -/
def Obligations.StationLawsKept : Prop :=
  ∀ (s t : State), s.Lawful → step s = .next t →
    t.ConfigLaw ∧ t.ScheduleLaw ∧ t.QuietLaw ∧ t.TimerLaw ∧ t.PortLaw

/-- R1, R2, R4, R26, R49, R60, R101: the configuration changes by an accepted CONFIGURE, by power-on and
by RESETn, and by no other command in any state. The cells and the digest change at slot ends and at
resets, the cells also by an accepted CONFIGURE, the digest also at founding, and by no other command:
neither START, LEAVE and the other requests, nor reception, nor a change of state. -/
def Obligations.TableAndConfigurationAreFixed : Prop :=
  ∀ (i : Instr) (s t : State), exec i s = .next t → i ≠ .powerOn → i ≠ .resetnAssert →
    (requestOf i ≠ none →
      (s.controller.state ≠ .unconfigured ∧ s.controller.state ≠ .ready) ∨
        ((s.awaitsCode → (requestOf i).map Prod.fst ≠ some 0x02) ∧
          ∀ received, s.host.phase ≠ .parameters 0x02 received)) →
    t.config = s.config ∧ t.frameCheck.tag = s.frameCheck.tag ∧
      (i ≠ .slotEnd → (i = .selectEnd → s.host.resetPending = false) →
        t.cells = s.cells ∧
          (i ≠ .listenTimerExpiry → t.agreement.digest = s.agreement.digest))
end

