-- ==== Sys2Proof/Laws/State.lean ====
section
/-! SUPPORT. Laws/State: for each named update of State, one lemma per field it keeps, and what the
changed fields become. Each is true by unfolding the record update once. -/

namespace Sys2Proof.Machine

/-! ### queueEvent -/

@[simp] theorem State.queueEvent_config (s : State) (e : EventRecord) :
    (s.queueEvent e).config = s.config := rfl
@[simp] theorem State.queueEvent_bus (s : State) (e : EventRecord) :
    (s.queueEvent e).bus = s.bus := rfl
@[simp] theorem State.queueEvent_frameCheck (s : State) (e : EventRecord) :
    (s.queueEvent e).frameCheck = s.frameCheck := rfl
@[simp] theorem State.queueEvent_agreement (s : State) (e : EventRecord) :
    (s.queueEvent e).agreement = s.agreement := rfl
@[simp] theorem State.queueEvent_cells (s : State) (e : EventRecord) :
    (s.queueEvent e).cells = s.cells := rfl
@[simp] theorem State.queueEvent_posts (s : State) (e : EventRecord) :
    (s.queueEvent e).posts = s.posts := rfl
@[simp] theorem State.queueEvent_controller (s : State) (e : EventRecord) :
    (s.queueEvent e).controller = s.controller := rfl
@[simp] theorem State.queueEvent_transfer (s : State) (e : EventRecord) :
    (s.queueEvent e).transfer = s.transfer := rfl
@[simp] theorem State.queueEvent_watch (s : State) (e : EventRecord) :
    (s.queueEvent e).watch = s.watch := rfl
@[simp] theorem State.queueEvent_host (s : State) (e : EventRecord) :
    (s.queueEvent e).host = s.host := rfl
@[simp] theorem State.queueEvent_resetn (s : State) (e : EventRecord) :
    (s.queueEvent e).resetn = s.resetn := rfl
@[simp] theorem State.queueEvent_rxd (s : State) (e : EventRecord) :
    (s.queueEvent e).rxd = s.rxd := rfl
@[simp] theorem State.queueEvent_pending (s : State) (e : EventRecord) :
    (s.queueEvent e).pending = s.pending := rfl
@[simp] theorem State.queueEvent_stationNumber (s : State) (e : EventRecord) :
    (s.queueEvent e).stationNumber = s.stationNumber := rfl
@[simp] theorem State.queueEvent_stationCount (s : State) (e : EventRecord) :
    (s.queueEvent e).stationCount = s.stationCount := rfl
@[simp] theorem State.queueEvent_slotSixteenths (s : State) (e : EventRecord) :
    (s.queueEvent e).slotSixteenths = s.slotSixteenths := rfl
@[simp] theorem State.queueEvent_cellMode (s : State) (e : EventRecord) (x : Fin 32) :
    (s.queueEvent e).cellMode x = s.cellMode x := rfl
@[simp] theorem State.queueEvent_cellPolicy (s : State) (e : EventRecord) (x : Fin 32) :
    (s.queueEvent e).cellPolicy x = s.cellPolicy x := rfl
@[simp] theorem State.queueEvent_configTag (s : State) (e : EventRecord) :
    (s.queueEvent e).configTag = s.configTag := rfl
@[simp] theorem State.queueEvent_events (s : State) (e : EventRecord) :
    (s.queueEvent e).events = arrive s.events e := rfl

/-! ### latchViewChanged -/

@[simp] theorem State.latchViewChanged_config (s : State) :
    s.latchViewChanged.config = s.config := rfl
@[simp] theorem State.latchViewChanged_bus (s : State) : s.latchViewChanged.bus = s.bus := rfl
@[simp] theorem State.latchViewChanged_frameCheck (s : State) :
    s.latchViewChanged.frameCheck = s.frameCheck := rfl
@[simp] theorem State.latchViewChanged_agreement (s : State) :
    s.latchViewChanged.agreement = s.agreement := rfl
@[simp] theorem State.latchViewChanged_cells (s : State) : s.latchViewChanged.cells = s.cells := rfl
@[simp] theorem State.latchViewChanged_posts (s : State) : s.latchViewChanged.posts = s.posts := rfl
@[simp] theorem State.latchViewChanged_controller (s : State) :
    s.latchViewChanged.controller = s.controller := rfl
@[simp] theorem State.latchViewChanged_transfer (s : State) :
    s.latchViewChanged.transfer = s.transfer := rfl
@[simp] theorem State.latchViewChanged_watch (s : State) : s.latchViewChanged.watch = s.watch := rfl
@[simp] theorem State.latchViewChanged_events (s : State) :
    s.latchViewChanged.events = s.events := rfl
@[simp] theorem State.latchViewChanged_resetn (s : State) :
    s.latchViewChanged.resetn = s.resetn := rfl
@[simp] theorem State.latchViewChanged_rxd (s : State) : s.latchViewChanged.rxd = s.rxd := rfl
@[simp] theorem State.latchViewChanged_pending (s : State) :
    s.latchViewChanged.pending = s.pending := rfl
@[simp] theorem State.latchViewChanged_stationNumber (s : State) :
    s.latchViewChanged.stationNumber = s.stationNumber := rfl
@[simp] theorem State.latchViewChanged_stationCount (s : State) :
    s.latchViewChanged.stationCount = s.stationCount := rfl
@[simp] theorem State.latchViewChanged_slotSixteenths (s : State) :
    s.latchViewChanged.slotSixteenths = s.slotSixteenths := rfl
@[simp] theorem State.latchViewChanged_cellMode (s : State) (x : Fin 32) :
    s.latchViewChanged.cellMode x = s.cellMode x := rfl
@[simp] theorem State.latchViewChanged_cellPolicy (s : State) (x : Fin 32) :
    s.latchViewChanged.cellPolicy x = s.cellPolicy x := rfl
@[simp] theorem State.latchViewChanged_configTag (s : State) :
    s.latchViewChanged.configTag = s.configTag := rfl
@[simp] theorem State.latchViewChanged_latches (s : State) :
    s.latchViewChanged.host.latches = { s.host.latches with viewChanged := true } := rfl
@[simp] theorem State.latchViewChanged_phase (s : State) :
    s.latchViewChanged.host.phase = s.host.phase := rfl
@[simp] theorem State.latchViewChanged_csn (s : State) :
    s.latchViewChanged.host.csn = s.host.csn := rfl

/-! ### latchExcluded -/

@[simp] theorem State.latchExcluded_config (s : State) : s.latchExcluded.config = s.config := rfl
@[simp] theorem State.latchExcluded_bus (s : State) : s.latchExcluded.bus = s.bus := rfl
@[simp] theorem State.latchExcluded_frameCheck (s : State) :
    s.latchExcluded.frameCheck = s.frameCheck := rfl
@[simp] theorem State.latchExcluded_agreement (s : State) :
    s.latchExcluded.agreement = s.agreement := rfl
@[simp] theorem State.latchExcluded_cells (s : State) : s.latchExcluded.cells = s.cells := rfl
@[simp] theorem State.latchExcluded_posts (s : State) : s.latchExcluded.posts = s.posts := rfl
@[simp] theorem State.latchExcluded_controller (s : State) :
    s.latchExcluded.controller = s.controller := rfl
@[simp] theorem State.latchExcluded_transfer (s : State) :
    s.latchExcluded.transfer = s.transfer := rfl
@[simp] theorem State.latchExcluded_watch (s : State) : s.latchExcluded.watch = s.watch := rfl
@[simp] theorem State.latchExcluded_events (s : State) : s.latchExcluded.events = s.events := rfl
@[simp] theorem State.latchExcluded_resetn (s : State) : s.latchExcluded.resetn = s.resetn := rfl
@[simp] theorem State.latchExcluded_rxd (s : State) : s.latchExcluded.rxd = s.rxd := rfl
@[simp] theorem State.latchExcluded_pending (s : State) : s.latchExcluded.pending = s.pending := rfl
@[simp] theorem State.latchExcluded_stationNumber (s : State) :
    s.latchExcluded.stationNumber = s.stationNumber := rfl
@[simp] theorem State.latchExcluded_stationCount (s : State) :
    s.latchExcluded.stationCount = s.stationCount := rfl
@[simp] theorem State.latchExcluded_slotSixteenths (s : State) :
    s.latchExcluded.slotSixteenths = s.slotSixteenths := rfl
@[simp] theorem State.latchExcluded_cellMode (s : State) (x : Fin 32) :
    s.latchExcluded.cellMode x = s.cellMode x := rfl
@[simp] theorem State.latchExcluded_cellPolicy (s : State) (x : Fin 32) :
    s.latchExcluded.cellPolicy x = s.cellPolicy x := rfl
@[simp] theorem State.latchExcluded_configTag (s : State) :
    s.latchExcluded.configTag = s.configTag := rfl
@[simp] theorem State.latchExcluded_latches (s : State) :
    s.latchExcluded.host.latches = { s.host.latches with excluded := true } := rfl
@[simp] theorem State.latchExcluded_phase (s : State) :
    s.latchExcluded.host.phase = s.host.phase := rfl
@[simp] theorem State.latchExcluded_csn (s : State) : s.latchExcluded.host.csn = s.host.csn := rfl

/-! ### latchForeign -/

@[simp] theorem State.latchForeign_config (s : State) : s.latchForeign.config = s.config := rfl
@[simp] theorem State.latchForeign_bus (s : State) : s.latchForeign.bus = s.bus := rfl
@[simp] theorem State.latchForeign_frameCheck (s : State) :
    s.latchForeign.frameCheck = s.frameCheck := rfl
@[simp] theorem State.latchForeign_agreement (s : State) :
    s.latchForeign.agreement = s.agreement := rfl
@[simp] theorem State.latchForeign_cells (s : State) : s.latchForeign.cells = s.cells := rfl
@[simp] theorem State.latchForeign_posts (s : State) : s.latchForeign.posts = s.posts := rfl
@[simp] theorem State.latchForeign_controller (s : State) :
    s.latchForeign.controller = s.controller := rfl
@[simp] theorem State.latchForeign_transfer (s : State) :
    s.latchForeign.transfer = s.transfer := rfl
@[simp] theorem State.latchForeign_watch (s : State) : s.latchForeign.watch = s.watch := rfl
@[simp] theorem State.latchForeign_events (s : State) : s.latchForeign.events = s.events := rfl
@[simp] theorem State.latchForeign_resetn (s : State) : s.latchForeign.resetn = s.resetn := rfl
@[simp] theorem State.latchForeign_rxd (s : State) : s.latchForeign.rxd = s.rxd := rfl
@[simp] theorem State.latchForeign_pending (s : State) : s.latchForeign.pending = s.pending := rfl
@[simp] theorem State.latchForeign_stationNumber (s : State) :
    s.latchForeign.stationNumber = s.stationNumber := rfl
@[simp] theorem State.latchForeign_stationCount (s : State) :
    s.latchForeign.stationCount = s.stationCount := rfl
@[simp] theorem State.latchForeign_slotSixteenths (s : State) :
    s.latchForeign.slotSixteenths = s.slotSixteenths := rfl
@[simp] theorem State.latchForeign_cellMode (s : State) (x : Fin 32) :
    s.latchForeign.cellMode x = s.cellMode x := rfl
@[simp] theorem State.latchForeign_cellPolicy (s : State) (x : Fin 32) :
    s.latchForeign.cellPolicy x = s.cellPolicy x := rfl
@[simp] theorem State.latchForeign_configTag (s : State) :
    s.latchForeign.configTag = s.configTag := rfl
@[simp] theorem State.latchForeign_latches (s : State) :
    s.latchForeign.host.latches = { s.host.latches with foreign := true } := rfl
@[simp] theorem State.latchForeign_phase (s : State) :
    s.latchForeign.host.phase = s.host.phase := rfl
@[simp] theorem State.latchForeign_csn (s : State) : s.latchForeign.host.csn = s.host.csn := rfl

/-! ### clearCounts -/

@[simp] theorem State.clearCounts_config (s : State) : s.clearCounts.config = s.config := rfl
@[simp] theorem State.clearCounts_bus (s : State) : s.clearCounts.bus = s.bus := rfl
@[simp] theorem State.clearCounts_frameCheck (s : State) :
    s.clearCounts.frameCheck = s.frameCheck := rfl
@[simp] theorem State.clearCounts_cells (s : State) : s.clearCounts.cells = s.cells := rfl
@[simp] theorem State.clearCounts_posts (s : State) : s.clearCounts.posts = s.posts := rfl
@[simp] theorem State.clearCounts_controller (s : State) :
    s.clearCounts.controller = s.controller := rfl
@[simp] theorem State.clearCounts_transfer (s : State) : s.clearCounts.transfer = s.transfer := rfl
@[simp] theorem State.clearCounts_watch (s : State) : s.clearCounts.watch = s.watch := rfl
@[simp] theorem State.clearCounts_events (s : State) : s.clearCounts.events = s.events := rfl
@[simp] theorem State.clearCounts_host (s : State) : s.clearCounts.host = s.host := rfl
@[simp] theorem State.clearCounts_resetn (s : State) : s.clearCounts.resetn = s.resetn := rfl
@[simp] theorem State.clearCounts_rxd (s : State) : s.clearCounts.rxd = s.rxd := rfl
@[simp] theorem State.clearCounts_pending (s : State) : s.clearCounts.pending = s.pending := rfl
@[simp] theorem State.clearCounts_stationNumber (s : State) :
    s.clearCounts.stationNumber = s.stationNumber := rfl
@[simp] theorem State.clearCounts_stationCount (s : State) :
    s.clearCounts.stationCount = s.stationCount := rfl
@[simp] theorem State.clearCounts_slotSixteenths (s : State) :
    s.clearCounts.slotSixteenths = s.slotSixteenths := rfl
@[simp] theorem State.clearCounts_cellMode (s : State) (x : Fin 32) :
    s.clearCounts.cellMode x = s.cellMode x := rfl
@[simp] theorem State.clearCounts_cellPolicy (s : State) (x : Fin 32) :
    s.clearCounts.cellPolicy x = s.cellPolicy x := rfl
@[simp] theorem State.clearCounts_configTag (s : State) :
    s.clearCounts.configTag = s.configTag := rfl
@[simp] theorem State.clearCounts_view (s : State) :
    s.clearCounts.agreement.view = s.agreement.view := rfl
@[simp] theorem State.clearCounts_digest (s : State) :
    s.clearCounts.agreement.digest = s.agreement.digest := rfl
@[simp] theorem State.clearCounts_agree (s : State) : s.clearCounts.agreement.agree = 0 := rfl
@[simp] theorem State.clearCounts_dissent (s : State) : s.clearCounts.agreement.dissent = 0 := rfl
@[simp] theorem State.clearCounts_foreignSeen (s : State) :
    s.clearCounts.agreement.foreignSeen = s.agreement.foreignSeen := rfl

/-! ### countAgree -/

@[simp] theorem State.countAgree_config (s : State) : s.countAgree.config = s.config := rfl
@[simp] theorem State.countAgree_bus (s : State) : s.countAgree.bus = s.bus := rfl
@[simp] theorem State.countAgree_frameCheck (s : State) :
    s.countAgree.frameCheck = s.frameCheck := rfl
@[simp] theorem State.countAgree_cells (s : State) : s.countAgree.cells = s.cells := rfl
@[simp] theorem State.countAgree_posts (s : State) : s.countAgree.posts = s.posts := rfl
@[simp] theorem State.countAgree_controller (s : State) :
    s.countAgree.controller = s.controller := rfl
@[simp] theorem State.countAgree_transfer (s : State) : s.countAgree.transfer = s.transfer := rfl
@[simp] theorem State.countAgree_watch (s : State) : s.countAgree.watch = s.watch := rfl
@[simp] theorem State.countAgree_events (s : State) : s.countAgree.events = s.events := rfl
@[simp] theorem State.countAgree_host (s : State) : s.countAgree.host = s.host := rfl
@[simp] theorem State.countAgree_resetn (s : State) : s.countAgree.resetn = s.resetn := rfl
@[simp] theorem State.countAgree_rxd (s : State) : s.countAgree.rxd = s.rxd := rfl
@[simp] theorem State.countAgree_pending (s : State) : s.countAgree.pending = s.pending := rfl
@[simp] theorem State.countAgree_stationNumber (s : State) :
    s.countAgree.stationNumber = s.stationNumber := rfl
@[simp] theorem State.countAgree_stationCount (s : State) :
    s.countAgree.stationCount = s.stationCount := rfl
@[simp] theorem State.countAgree_slotSixteenths (s : State) :
    s.countAgree.slotSixteenths = s.slotSixteenths := rfl
@[simp] theorem State.countAgree_cellMode (s : State) (x : Fin 32) :
    s.countAgree.cellMode x = s.cellMode x := rfl
@[simp] theorem State.countAgree_cellPolicy (s : State) (x : Fin 32) :
    s.countAgree.cellPolicy x = s.cellPolicy x := rfl
@[simp] theorem State.countAgree_configTag (s : State) : s.countAgree.configTag = s.configTag := rfl
@[simp] theorem State.countAgree_view (s : State) :
    s.countAgree.agreement.view = s.agreement.view := rfl
@[simp] theorem State.countAgree_digest (s : State) :
    s.countAgree.agreement.digest = s.agreement.digest := rfl
@[simp] theorem State.countAgree_agree (s : State) :
    s.countAgree.agreement.agree = s.agreement.agree + 1 := rfl
@[simp] theorem State.countAgree_dissent (s : State) :
    s.countAgree.agreement.dissent = s.agreement.dissent := rfl
@[simp] theorem State.countAgree_foreignSeen (s : State) :
    s.countAgree.agreement.foreignSeen = s.agreement.foreignSeen := rfl

/-! ### countDissent -/

@[simp] theorem State.countDissent_config (s : State) : s.countDissent.config = s.config := rfl
@[simp] theorem State.countDissent_bus (s : State) : s.countDissent.bus = s.bus := rfl
@[simp] theorem State.countDissent_frameCheck (s : State) :
    s.countDissent.frameCheck = s.frameCheck := rfl
@[simp] theorem State.countDissent_cells (s : State) : s.countDissent.cells = s.cells := rfl
@[simp] theorem State.countDissent_posts (s : State) : s.countDissent.posts = s.posts := rfl
@[simp] theorem State.countDissent_controller (s : State) :
    s.countDissent.controller = s.controller := rfl
@[simp] theorem State.countDissent_transfer (s : State) :
    s.countDissent.transfer = s.transfer := rfl
@[simp] theorem State.countDissent_watch (s : State) : s.countDissent.watch = s.watch := rfl
@[simp] theorem State.countDissent_events (s : State) : s.countDissent.events = s.events := rfl
@[simp] theorem State.countDissent_host (s : State) : s.countDissent.host = s.host := rfl
@[simp] theorem State.countDissent_resetn (s : State) : s.countDissent.resetn = s.resetn := rfl
@[simp] theorem State.countDissent_rxd (s : State) : s.countDissent.rxd = s.rxd := rfl
@[simp] theorem State.countDissent_pending (s : State) : s.countDissent.pending = s.pending := rfl
@[simp] theorem State.countDissent_stationNumber (s : State) :
    s.countDissent.stationNumber = s.stationNumber := rfl
@[simp] theorem State.countDissent_stationCount (s : State) :
    s.countDissent.stationCount = s.stationCount := rfl
@[simp] theorem State.countDissent_slotSixteenths (s : State) :
    s.countDissent.slotSixteenths = s.slotSixteenths := rfl
@[simp] theorem State.countDissent_cellMode (s : State) (x : Fin 32) :
    s.countDissent.cellMode x = s.cellMode x := rfl
@[simp] theorem State.countDissent_cellPolicy (s : State) (x : Fin 32) :
    s.countDissent.cellPolicy x = s.cellPolicy x := rfl
@[simp] theorem State.countDissent_configTag (s : State) :
    s.countDissent.configTag = s.configTag := rfl
@[simp] theorem State.countDissent_view (s : State) :
    s.countDissent.agreement.view = s.agreement.view := rfl
@[simp] theorem State.countDissent_digest (s : State) :
    s.countDissent.agreement.digest = s.agreement.digest := rfl
@[simp] theorem State.countDissent_agree (s : State) :
    s.countDissent.agreement.agree = s.agreement.agree := rfl
@[simp] theorem State.countDissent_dissent (s : State) :
    s.countDissent.agreement.dissent = s.agreement.dissent + 1 := rfl
@[simp] theorem State.countDissent_foreignSeen (s : State) :
    s.countDissent.agreement.foreignSeen = s.agreement.foreignSeen := rfl

/-! ### setCell -/

@[simp] theorem State.setCell_config (s : State) (i : Fin 32) (c : Cell) :
    (s.setCell i c).config = s.config := rfl
@[simp] theorem State.setCell_bus (s : State) (i : Fin 32) (c : Cell) :
    (s.setCell i c).bus = s.bus := rfl
@[simp] theorem State.setCell_frameCheck (s : State) (i : Fin 32) (c : Cell) :
    (s.setCell i c).frameCheck = s.frameCheck := rfl
@[simp] theorem State.setCell_agreement (s : State) (i : Fin 32) (c : Cell) :
    (s.setCell i c).agreement = s.agreement := rfl
@[simp] theorem State.setCell_posts (s : State) (i : Fin 32) (c : Cell) :
    (s.setCell i c).posts = s.posts := rfl
@[simp] theorem State.setCell_controller (s : State) (i : Fin 32) (c : Cell) :
    (s.setCell i c).controller = s.controller := rfl
@[simp] theorem State.setCell_transfer (s : State) (i : Fin 32) (c : Cell) :
    (s.setCell i c).transfer = s.transfer := rfl
@[simp] theorem State.setCell_watch (s : State) (i : Fin 32) (c : Cell) :
    (s.setCell i c).watch = s.watch := rfl
@[simp] theorem State.setCell_events (s : State) (i : Fin 32) (c : Cell) :
    (s.setCell i c).events = s.events := rfl
@[simp] theorem State.setCell_host (s : State) (i : Fin 32) (c : Cell) :
    (s.setCell i c).host = s.host := rfl
@[simp] theorem State.setCell_resetn (s : State) (i : Fin 32) (c : Cell) :
    (s.setCell i c).resetn = s.resetn := rfl
@[simp] theorem State.setCell_rxd (s : State) (i : Fin 32) (c : Cell) :
    (s.setCell i c).rxd = s.rxd := rfl
@[simp] theorem State.setCell_pending (s : State) (i : Fin 32) (c : Cell) :
    (s.setCell i c).pending = s.pending := rfl
@[simp] theorem State.setCell_stationNumber (s : State) (i : Fin 32) (c : Cell) :
    (s.setCell i c).stationNumber = s.stationNumber := rfl
@[simp] theorem State.setCell_stationCount (s : State) (i : Fin 32) (c : Cell) :
    (s.setCell i c).stationCount = s.stationCount := rfl
@[simp] theorem State.setCell_slotSixteenths (s : State) (i : Fin 32) (c : Cell) :
    (s.setCell i c).slotSixteenths = s.slotSixteenths := rfl
@[simp] theorem State.setCell_cellMode (s : State) (i : Fin 32) (c : Cell) (x : Fin 32) :
    (s.setCell i c).cellMode x = s.cellMode x := rfl
@[simp] theorem State.setCell_cellPolicy (s : State) (i : Fin 32) (c : Cell) (x : Fin 32) :
    (s.setCell i c).cellPolicy x = s.cellPolicy x := rfl
@[simp] theorem State.setCell_configTag (s : State) (i : Fin 32) (c : Cell) :
    (s.setCell i c).configTag = s.configTag := rfl
@[simp] theorem State.setCell_cells (s : State) (i : Fin 32) (c : Cell) :
    (s.setCell i c).cells = s.cells.set i c := rfl

/-! ### stopBus -/

@[simp] theorem State.stopBus_config (s : State) : s.stopBus.config = s.config := rfl
@[simp] theorem State.stopBus_agreement (s : State) : s.stopBus.agreement = s.agreement := rfl
@[simp] theorem State.stopBus_cells (s : State) : s.stopBus.cells = s.cells := rfl
@[simp] theorem State.stopBus_posts (s : State) : s.stopBus.posts = s.posts := rfl
@[simp] theorem State.stopBus_controller (s : State) : s.stopBus.controller = s.controller := rfl
@[simp] theorem State.stopBus_transfer (s : State) : s.stopBus.transfer = s.transfer := rfl
@[simp] theorem State.stopBus_watch (s : State) : s.stopBus.watch = s.watch := rfl
@[simp] theorem State.stopBus_events (s : State) : s.stopBus.events = s.events := rfl
@[simp] theorem State.stopBus_host (s : State) : s.stopBus.host = s.host := rfl
@[simp] theorem State.stopBus_resetn (s : State) : s.stopBus.resetn = s.resetn := rfl
@[simp] theorem State.stopBus_rxd (s : State) : s.stopBus.rxd = s.rxd := rfl
@[simp] theorem State.stopBus_pending (s : State) : s.stopBus.pending = s.pending := rfl
@[simp] theorem State.stopBus_stationNumber (s : State) :
    s.stopBus.stationNumber = s.stationNumber := rfl
@[simp] theorem State.stopBus_stationCount (s : State) :
    s.stopBus.stationCount = s.stationCount := rfl
@[simp] theorem State.stopBus_slotSixteenths (s : State) :
    s.stopBus.slotSixteenths = s.slotSixteenths := rfl
@[simp] theorem State.stopBus_cellMode (s : State) (x : Fin 32) :
    s.stopBus.cellMode x = s.cellMode x := rfl
@[simp] theorem State.stopBus_cellPolicy (s : State) (x : Fin 32) :
    s.stopBus.cellPolicy x = s.cellPolicy x := rfl
@[simp] theorem State.stopBus_configTag (s : State) : s.stopBus.configTag = s.configTag := rfl
@[simp] theorem State.stopBus_bus (s : State) :
    s.stopBus.bus =
      ⟨false, 0, s.bus.slot, s.bus.round, .silent, false, false, none, [], .idle⟩ := rfl
@[simp] theorem State.stopBus_frameCheck (s : State) :
    s.stopBus.frameCheck = ⟨[], [], s.frameCheck.tag, none⟩ := rfl

/-! ### stopTimers -/

@[simp] theorem State.stopTimers_config (s : State) : s.stopTimers.config = s.config := rfl
@[simp] theorem State.stopTimers_bus (s : State) : s.stopTimers.bus = s.bus := rfl
@[simp] theorem State.stopTimers_frameCheck (s : State) :
    s.stopTimers.frameCheck = s.frameCheck := rfl
@[simp] theorem State.stopTimers_agreement (s : State) : s.stopTimers.agreement = s.agreement := rfl
@[simp] theorem State.stopTimers_cells (s : State) : s.stopTimers.cells = s.cells := rfl
@[simp] theorem State.stopTimers_posts (s : State) : s.stopTimers.posts = s.posts := rfl
@[simp] theorem State.stopTimers_transfer (s : State) : s.stopTimers.transfer = s.transfer := rfl
@[simp] theorem State.stopTimers_watch (s : State) : s.stopTimers.watch = s.watch := rfl
@[simp] theorem State.stopTimers_events (s : State) : s.stopTimers.events = s.events := rfl
@[simp] theorem State.stopTimers_host (s : State) : s.stopTimers.host = s.host := rfl
@[simp] theorem State.stopTimers_resetn (s : State) : s.stopTimers.resetn = s.resetn := rfl
@[simp] theorem State.stopTimers_rxd (s : State) : s.stopTimers.rxd = s.rxd := rfl
@[simp] theorem State.stopTimers_pending (s : State) : s.stopTimers.pending = s.pending := rfl
@[simp] theorem State.stopTimers_stationNumber (s : State) :
    s.stopTimers.stationNumber = s.stationNumber := rfl
@[simp] theorem State.stopTimers_stationCount (s : State) :
    s.stopTimers.stationCount = s.stationCount := rfl
@[simp] theorem State.stopTimers_slotSixteenths (s : State) :
    s.stopTimers.slotSixteenths = s.slotSixteenths := rfl
@[simp] theorem State.stopTimers_cellMode (s : State) (x : Fin 32) :
    s.stopTimers.cellMode x = s.cellMode x := rfl
@[simp] theorem State.stopTimers_cellPolicy (s : State) (x : Fin 32) :
    s.stopTimers.cellPolicy x = s.cellPolicy x := rfl
@[simp] theorem State.stopTimers_configTag (s : State) : s.stopTimers.configTag = s.configTag := rfl
@[simp] theorem State.stopTimers_controller (s : State) :
    s.stopTimers.controller =
      { s.controller with listenTimer := 0, waitCount := 0, joinTimer := 0 } := rfl

/-! ### loadFrame -/

@[simp] theorem State.loadFrame_config (s : State) (bytes : List Byte) :
    (s.loadFrame bytes).config = s.config := rfl
@[simp] theorem State.loadFrame_agreement (s : State) (bytes : List Byte) :
    (s.loadFrame bytes).agreement = s.agreement := rfl
@[simp] theorem State.loadFrame_cells (s : State) (bytes : List Byte) :
    (s.loadFrame bytes).cells = s.cells := rfl
@[simp] theorem State.loadFrame_posts (s : State) (bytes : List Byte) :
    (s.loadFrame bytes).posts = s.posts := rfl
@[simp] theorem State.loadFrame_controller (s : State) (bytes : List Byte) :
    (s.loadFrame bytes).controller = s.controller := rfl
@[simp] theorem State.loadFrame_transfer (s : State) (bytes : List Byte) :
    (s.loadFrame bytes).transfer = s.transfer := rfl
@[simp] theorem State.loadFrame_watch (s : State) (bytes : List Byte) :
    (s.loadFrame bytes).watch = s.watch := rfl
@[simp] theorem State.loadFrame_events (s : State) (bytes : List Byte) :
    (s.loadFrame bytes).events = s.events := rfl
@[simp] theorem State.loadFrame_host (s : State) (bytes : List Byte) :
    (s.loadFrame bytes).host = s.host := rfl
@[simp] theorem State.loadFrame_resetn (s : State) (bytes : List Byte) :
    (s.loadFrame bytes).resetn = s.resetn := rfl
@[simp] theorem State.loadFrame_rxd (s : State) (bytes : List Byte) :
    (s.loadFrame bytes).rxd = s.rxd := rfl
@[simp] theorem State.loadFrame_pending (s : State) (bytes : List Byte) :
    (s.loadFrame bytes).pending = s.pending := rfl
@[simp] theorem State.loadFrame_stationNumber (s : State) (bytes : List Byte) :
    (s.loadFrame bytes).stationNumber = s.stationNumber := rfl
@[simp] theorem State.loadFrame_stationCount (s : State) (bytes : List Byte) :
    (s.loadFrame bytes).stationCount = s.stationCount := rfl
@[simp] theorem State.loadFrame_slotSixteenths (s : State) (bytes : List Byte) :
    (s.loadFrame bytes).slotSixteenths = s.slotSixteenths := rfl
@[simp] theorem State.loadFrame_cellMode (s : State) (bytes : List Byte) (x : Fin 32) :
    (s.loadFrame bytes).cellMode x = s.cellMode x := rfl
@[simp] theorem State.loadFrame_cellPolicy (s : State) (bytes : List Byte) (x : Fin 32) :
    (s.loadFrame bytes).cellPolicy x = s.cellPolicy x := rfl
@[simp] theorem State.loadFrame_configTag (s : State) (bytes : List Byte) :
    (s.loadFrame bytes).configTag = s.configTag := rfl
@[simp] theorem State.loadFrame_bus (s : State) (bytes : List Byte) :
    (s.loadFrame bytes).bus = { s.bus with tx := .built, loopback := [] } := rfl
@[simp] theorem State.loadFrame_frameCheck (s : State) (bytes : List Byte) :
    (s.loadFrame bytes).frameCheck = { s.frameCheck with transmit := bytes } := rfl

/-! ### changeState -/

@[simp] theorem State.changeState_config (s : State) (new : StationState) (cause : ChangeCause) :
    (s.changeState new cause).config = s.config := rfl
@[simp] theorem State.changeState_bus (s : State) (new : StationState) (cause : ChangeCause) :
    (s.changeState new cause).bus = s.bus := rfl
@[simp] theorem State.changeState_frameCheck (s : State) (new : StationState) (cause : ChangeCause) :
    (s.changeState new cause).frameCheck = s.frameCheck := rfl
@[simp] theorem State.changeState_agreement (s : State) (new : StationState) (cause : ChangeCause) :
    (s.changeState new cause).agreement = s.agreement := rfl
@[simp] theorem State.changeState_cells (s : State) (new : StationState) (cause : ChangeCause) :
    (s.changeState new cause).cells = s.cells := rfl
@[simp] theorem State.changeState_posts (s : State) (new : StationState) (cause : ChangeCause) :
    (s.changeState new cause).posts = s.posts := rfl
@[simp] theorem State.changeState_transfer (s : State) (new : StationState) (cause : ChangeCause) :
    (s.changeState new cause).transfer = s.transfer := rfl
@[simp] theorem State.changeState_watch (s : State) (new : StationState) (cause : ChangeCause) :
    (s.changeState new cause).watch = s.watch := rfl
@[simp] theorem State.changeState_host (s : State) (new : StationState) (cause : ChangeCause) :
    (s.changeState new cause).host = s.host := rfl
@[simp] theorem State.changeState_resetn (s : State) (new : StationState) (cause : ChangeCause) :
    (s.changeState new cause).resetn = s.resetn := rfl
@[simp] theorem State.changeState_rxd (s : State) (new : StationState) (cause : ChangeCause) :
    (s.changeState new cause).rxd = s.rxd := rfl
@[simp] theorem State.changeState_pending (s : State) (new : StationState) (cause : ChangeCause) :
    (s.changeState new cause).pending = s.pending := rfl
@[simp] theorem State.changeState_stationNumber (s : State) (new : StationState) (cause : ChangeCause) :
    (s.changeState new cause).stationNumber = s.stationNumber := rfl
@[simp] theorem State.changeState_stationCount (s : State) (new : StationState) (cause : ChangeCause) :
    (s.changeState new cause).stationCount = s.stationCount := rfl
@[simp] theorem State.changeState_slotSixteenths (s : State) (new : StationState) (cause : ChangeCause) :
    (s.changeState new cause).slotSixteenths = s.slotSixteenths := rfl
@[simp] theorem State.changeState_cellMode (s : State) (new : StationState) (cause : ChangeCause) (x : Fin 32) :
    (s.changeState new cause).cellMode x = s.cellMode x := rfl
@[simp] theorem State.changeState_cellPolicy (s : State) (new : StationState) (cause : ChangeCause) (x : Fin 32) :
    (s.changeState new cause).cellPolicy x = s.cellPolicy x := rfl
@[simp] theorem State.changeState_configTag (s : State) (new : StationState) (cause : ChangeCause) :
    (s.changeState new cause).configTag = s.configTag := rfl
@[simp] theorem State.changeState_controller (s : State) (new : StationState) (cause : ChangeCause) :
    (s.changeState new cause).controller = { s.controller with state := new } := rfl
@[simp] theorem State.changeState_events (s : State) (new : StationState) (cause : ChangeCause) :
    (s.changeState new cause).events = arrive s.events
      { s.blankEvent .stateChanged with
        station := byteOf s.stationNumber, item := byteOf (causeCode cause),
        code := byteOf (stateCode new), extra := byteOf s.controller.failures } := rfl

/-! ### enterListen -/

@[simp] theorem State.enterListen_config (s : State) (cause : ChangeCause) :
    (s.enterListen cause).config = s.config := rfl
@[simp] theorem State.enterListen_agreement (s : State) (cause : ChangeCause) :
    (s.enterListen cause).agreement = s.agreement := rfl
@[simp] theorem State.enterListen_cells (s : State) (cause : ChangeCause) :
    (s.enterListen cause).cells = s.cells := rfl
@[simp] theorem State.enterListen_posts (s : State) (cause : ChangeCause) :
    (s.enterListen cause).posts = s.posts := rfl
@[simp] theorem State.enterListen_transfer (s : State) (cause : ChangeCause) :
    (s.enterListen cause).transfer = s.transfer := rfl
@[simp] theorem State.enterListen_watch (s : State) (cause : ChangeCause) :
    (s.enterListen cause).watch = s.watch := rfl
@[simp] theorem State.enterListen_host (s : State) (cause : ChangeCause) :
    (s.enterListen cause).host = s.host := rfl
@[simp] theorem State.enterListen_resetn (s : State) (cause : ChangeCause) :
    (s.enterListen cause).resetn = s.resetn := rfl
@[simp] theorem State.enterListen_rxd (s : State) (cause : ChangeCause) :
    (s.enterListen cause).rxd = s.rxd := rfl
@[simp] theorem State.enterListen_pending (s : State) (cause : ChangeCause) :
    (s.enterListen cause).pending = s.pending := rfl
@[simp] theorem State.enterListen_stationNumber (s : State) (cause : ChangeCause) :
    (s.enterListen cause).stationNumber = s.stationNumber := rfl
@[simp] theorem State.enterListen_stationCount (s : State) (cause : ChangeCause) :
    (s.enterListen cause).stationCount = s.stationCount := rfl
@[simp] theorem State.enterListen_slotSixteenths (s : State) (cause : ChangeCause) :
    (s.enterListen cause).slotSixteenths = s.slotSixteenths := rfl
@[simp] theorem State.enterListen_cellMode (s : State) (cause : ChangeCause) (x : Fin 32) :
    (s.enterListen cause).cellMode x = s.cellMode x := rfl
@[simp] theorem State.enterListen_cellPolicy (s : State) (cause : ChangeCause) (x : Fin 32) :
    (s.enterListen cause).cellPolicy x = s.cellPolicy x := rfl
@[simp] theorem State.enterListen_configTag (s : State) (cause : ChangeCause) :
    (s.enterListen cause).configTag = s.configTag := rfl
@[simp] theorem State.enterListen_controller (s : State) (cause : ChangeCause) :
    (s.enterListen cause).controller =
      { s.controller with state := .listen, listenTimer := 0, waitCount := 0, joinTimer := 0 } := rfl

/-! ### enterStandby -/

@[simp] theorem State.enterStandby_config (s : State) : s.enterStandby.config = s.config := rfl
@[simp] theorem State.enterStandby_agreement (s : State) :
    s.enterStandby.agreement = s.agreement := rfl
@[simp] theorem State.enterStandby_cells (s : State) : s.enterStandby.cells = s.cells := rfl
@[simp] theorem State.enterStandby_posts (s : State) : s.enterStandby.posts = s.posts := rfl
@[simp] theorem State.enterStandby_watch (s : State) : s.enterStandby.watch = s.watch := rfl
@[simp] theorem State.enterStandby_host (s : State) : s.enterStandby.host = s.host := rfl
@[simp] theorem State.enterStandby_resetn (s : State) : s.enterStandby.resetn = s.resetn := rfl
@[simp] theorem State.enterStandby_rxd (s : State) : s.enterStandby.rxd = s.rxd := rfl
@[simp] theorem State.enterStandby_pending (s : State) : s.enterStandby.pending = s.pending := rfl
@[simp] theorem State.enterStandby_stationNumber (s : State) :
    s.enterStandby.stationNumber = s.stationNumber := rfl
@[simp] theorem State.enterStandby_stationCount (s : State) :
    s.enterStandby.stationCount = s.stationCount := rfl
@[simp] theorem State.enterStandby_slotSixteenths (s : State) :
    s.enterStandby.slotSixteenths = s.slotSixteenths := rfl
@[simp] theorem State.enterStandby_cellMode (s : State) (x : Fin 32) :
    s.enterStandby.cellMode x = s.cellMode x := rfl
@[simp] theorem State.enterStandby_cellPolicy (s : State) (x : Fin 32) :
    s.enterStandby.cellPolicy x = s.cellPolicy x := rfl
@[simp] theorem State.enterStandby_configTag (s : State) :
    s.enterStandby.configTag = s.configTag := rfl
@[simp] theorem State.enterStandby_controller (s : State) :
    s.enterStandby.controller =
      ⟨.standby, s.controller.failures, 0, 0, 0, false, false⟩ := rfl
@[simp] theorem State.enterStandby_transfer (s : State) :
    s.enterStandby.transfer = ⟨[], none, none⟩ := rfl

/-! ### enterHalted -/

@[simp] theorem State.enterHalted_config (s : State) : s.enterHalted.config = s.config := rfl
@[simp] theorem State.enterHalted_agreement (s : State) :
    s.enterHalted.agreement = s.agreement := rfl
@[simp] theorem State.enterHalted_cells (s : State) : s.enterHalted.cells = s.cells := rfl
@[simp] theorem State.enterHalted_posts (s : State) : s.enterHalted.posts = s.posts := rfl
@[simp] theorem State.enterHalted_transfer (s : State) : s.enterHalted.transfer = s.transfer := rfl
@[simp] theorem State.enterHalted_watch (s : State) : s.enterHalted.watch = s.watch := rfl
@[simp] theorem State.enterHalted_host (s : State) : s.enterHalted.host = s.host := rfl
@[simp] theorem State.enterHalted_resetn (s : State) : s.enterHalted.resetn = s.resetn := rfl
@[simp] theorem State.enterHalted_rxd (s : State) : s.enterHalted.rxd = s.rxd := rfl
@[simp] theorem State.enterHalted_pending (s : State) : s.enterHalted.pending = s.pending := rfl
@[simp] theorem State.enterHalted_stationNumber (s : State) :
    s.enterHalted.stationNumber = s.stationNumber := rfl
@[simp] theorem State.enterHalted_stationCount (s : State) :
    s.enterHalted.stationCount = s.stationCount := rfl
@[simp] theorem State.enterHalted_slotSixteenths (s : State) :
    s.enterHalted.slotSixteenths = s.slotSixteenths := rfl
@[simp] theorem State.enterHalted_cellMode (s : State) (x : Fin 32) :
    s.enterHalted.cellMode x = s.cellMode x := rfl
@[simp] theorem State.enterHalted_cellPolicy (s : State) (x : Fin 32) :
    s.enterHalted.cellPolicy x = s.cellPolicy x := rfl
@[simp] theorem State.enterHalted_configTag (s : State) :
    s.enterHalted.configTag = s.configTag := rfl
@[simp] theorem State.enterHalted_controller (s : State) :
    s.enterHalted.controller =
      ⟨.halted, s.controller.failures, 0, 0, 0, false, false⟩ := rfl

/-! ### countFailure -/

@[simp] theorem State.countFailure_config (s : State) : s.countFailure.config = s.config := rfl
@[simp] theorem State.countFailure_bus (s : State) : s.countFailure.bus = s.bus := rfl
@[simp] theorem State.countFailure_frameCheck (s : State) :
    s.countFailure.frameCheck = s.frameCheck := rfl
@[simp] theorem State.countFailure_agreement (s : State) :
    s.countFailure.agreement = s.agreement := rfl
@[simp] theorem State.countFailure_cells (s : State) : s.countFailure.cells = s.cells := rfl
@[simp] theorem State.countFailure_posts (s : State) : s.countFailure.posts = s.posts := rfl
@[simp] theorem State.countFailure_transfer (s : State) :
    s.countFailure.transfer = s.transfer := rfl
@[simp] theorem State.countFailure_watch (s : State) : s.countFailure.watch = s.watch := rfl
@[simp] theorem State.countFailure_events (s : State) : s.countFailure.events = s.events := rfl
@[simp] theorem State.countFailure_host (s : State) : s.countFailure.host = s.host := rfl
@[simp] theorem State.countFailure_resetn (s : State) : s.countFailure.resetn = s.resetn := rfl
@[simp] theorem State.countFailure_rxd (s : State) : s.countFailure.rxd = s.rxd := rfl
@[simp] theorem State.countFailure_pending (s : State) : s.countFailure.pending = s.pending := rfl
@[simp] theorem State.countFailure_stationNumber (s : State) :
    s.countFailure.stationNumber = s.stationNumber := rfl
@[simp] theorem State.countFailure_stationCount (s : State) :
    s.countFailure.stationCount = s.stationCount := rfl
@[simp] theorem State.countFailure_slotSixteenths (s : State) :
    s.countFailure.slotSixteenths = s.slotSixteenths := rfl
@[simp] theorem State.countFailure_cellMode (s : State) (x : Fin 32) :
    s.countFailure.cellMode x = s.cellMode x := rfl
@[simp] theorem State.countFailure_cellPolicy (s : State) (x : Fin 32) :
    s.countFailure.cellPolicy x = s.cellPolicy x := rfl
@[simp] theorem State.countFailure_configTag (s : State) :
    s.countFailure.configTag = s.configTag := rfl
@[simp] theorem State.countFailure_controller (s : State) :
    s.countFailure.controller =
      { s.controller with failures := s.controller.failures + 1 } := rfl

/-! ### clearCells -/

@[simp] theorem State.clearCells_config (s : State) : s.clearCells.config = s.config := rfl
@[simp] theorem State.clearCells_bus (s : State) : s.clearCells.bus = s.bus := rfl
@[simp] theorem State.clearCells_frameCheck (s : State) :
    s.clearCells.frameCheck = s.frameCheck := rfl
@[simp] theorem State.clearCells_agreement (s : State) : s.clearCells.agreement = s.agreement := rfl
@[simp] theorem State.clearCells_posts (s : State) : s.clearCells.posts = s.posts := rfl
@[simp] theorem State.clearCells_controller (s : State) :
    s.clearCells.controller = s.controller := rfl
@[simp] theorem State.clearCells_transfer (s : State) : s.clearCells.transfer = s.transfer := rfl
@[simp] theorem State.clearCells_watch (s : State) : s.clearCells.watch = s.watch := rfl
@[simp] theorem State.clearCells_events (s : State) : s.clearCells.events = s.events := rfl
@[simp] theorem State.clearCells_host (s : State) : s.clearCells.host = s.host := rfl
@[simp] theorem State.clearCells_resetn (s : State) : s.clearCells.resetn = s.resetn := rfl
@[simp] theorem State.clearCells_rxd (s : State) : s.clearCells.rxd = s.rxd := rfl
@[simp] theorem State.clearCells_pending (s : State) : s.clearCells.pending = s.pending := rfl
@[simp] theorem State.clearCells_stationNumber (s : State) :
    s.clearCells.stationNumber = s.stationNumber := rfl
@[simp] theorem State.clearCells_stationCount (s : State) :
    s.clearCells.stationCount = s.stationCount := rfl
@[simp] theorem State.clearCells_slotSixteenths (s : State) :
    s.clearCells.slotSixteenths = s.slotSixteenths := rfl
@[simp] theorem State.clearCells_cellMode (s : State) (x : Fin 32) :
    s.clearCells.cellMode x = s.cellMode x := rfl
@[simp] theorem State.clearCells_cellPolicy (s : State) (x : Fin 32) :
    s.clearCells.cellPolicy x = s.cellPolicy x := rfl
@[simp] theorem State.clearCells_configTag (s : State) : s.clearCells.configTag = s.configTag := rfl

/-! ### installCells -/

@[simp] theorem State.installCells_config (s : State) (t : TransferSection) :
    (s.installCells t).config = s.config := rfl
@[simp] theorem State.installCells_bus (s : State) (t : TransferSection) :
    (s.installCells t).bus = s.bus := rfl
@[simp] theorem State.installCells_frameCheck (s : State) (t : TransferSection) :
    (s.installCells t).frameCheck = s.frameCheck := rfl
@[simp] theorem State.installCells_agreement (s : State) (t : TransferSection) :
    (s.installCells t).agreement = s.agreement := rfl
@[simp] theorem State.installCells_posts (s : State) (t : TransferSection) :
    (s.installCells t).posts = s.posts := rfl
@[simp] theorem State.installCells_controller (s : State) (t : TransferSection) :
    (s.installCells t).controller = s.controller := rfl
@[simp] theorem State.installCells_transfer (s : State) (t : TransferSection) :
    (s.installCells t).transfer = s.transfer := rfl
@[simp] theorem State.installCells_watch (s : State) (t : TransferSection) :
    (s.installCells t).watch = s.watch := rfl
@[simp] theorem State.installCells_events (s : State) (t : TransferSection) :
    (s.installCells t).events = s.events := rfl
@[simp] theorem State.installCells_host (s : State) (t : TransferSection) :
    (s.installCells t).host = s.host := rfl
@[simp] theorem State.installCells_resetn (s : State) (t : TransferSection) :
    (s.installCells t).resetn = s.resetn := rfl
@[simp] theorem State.installCells_rxd (s : State) (t : TransferSection) :
    (s.installCells t).rxd = s.rxd := rfl
@[simp] theorem State.installCells_pending (s : State) (t : TransferSection) :
    (s.installCells t).pending = s.pending := rfl
@[simp] theorem State.installCells_stationNumber (s : State) (t : TransferSection) :
    (s.installCells t).stationNumber = s.stationNumber := rfl
@[simp] theorem State.installCells_stationCount (s : State) (t : TransferSection) :
    (s.installCells t).stationCount = s.stationCount := rfl
@[simp] theorem State.installCells_slotSixteenths (s : State) (t : TransferSection) :
    (s.installCells t).slotSixteenths = s.slotSixteenths := rfl
@[simp] theorem State.installCells_cellMode (s : State) (t : TransferSection) (x : Fin 32) :
    (s.installCells t).cellMode x = s.cellMode x := rfl
@[simp] theorem State.installCells_cellPolicy (s : State) (t : TransferSection) (x : Fin 32) :
    (s.installCells t).cellPolicy x = s.cellPolicy x := rfl
@[simp] theorem State.installCells_configTag (s : State) (t : TransferSection) :
    (s.installCells t).configTag = s.configTag := rfl

/-! ### setEntry -/

@[simp] theorem State.setEntry_config (s : State) (i : Fin 16) (entry : Option Watch) :
    (s.setEntry i entry).config = s.config := rfl
@[simp] theorem State.setEntry_bus (s : State) (i : Fin 16) (entry : Option Watch) :
    (s.setEntry i entry).bus = s.bus := rfl
@[simp] theorem State.setEntry_frameCheck (s : State) (i : Fin 16) (entry : Option Watch) :
    (s.setEntry i entry).frameCheck = s.frameCheck := rfl
@[simp] theorem State.setEntry_agreement (s : State) (i : Fin 16) (entry : Option Watch) :
    (s.setEntry i entry).agreement = s.agreement := rfl
@[simp] theorem State.setEntry_cells (s : State) (i : Fin 16) (entry : Option Watch) :
    (s.setEntry i entry).cells = s.cells := rfl
@[simp] theorem State.setEntry_posts (s : State) (i : Fin 16) (entry : Option Watch) :
    (s.setEntry i entry).posts = s.posts := rfl
@[simp] theorem State.setEntry_controller (s : State) (i : Fin 16) (entry : Option Watch) :
    (s.setEntry i entry).controller = s.controller := rfl
@[simp] theorem State.setEntry_transfer (s : State) (i : Fin 16) (entry : Option Watch) :
    (s.setEntry i entry).transfer = s.transfer := rfl
@[simp] theorem State.setEntry_events (s : State) (i : Fin 16) (entry : Option Watch) :
    (s.setEntry i entry).events = s.events := rfl
@[simp] theorem State.setEntry_host (s : State) (i : Fin 16) (entry : Option Watch) :
    (s.setEntry i entry).host = s.host := rfl
@[simp] theorem State.setEntry_resetn (s : State) (i : Fin 16) (entry : Option Watch) :
    (s.setEntry i entry).resetn = s.resetn := rfl
@[simp] theorem State.setEntry_rxd (s : State) (i : Fin 16) (entry : Option Watch) :
    (s.setEntry i entry).rxd = s.rxd := rfl
@[simp] theorem State.setEntry_pending (s : State) (i : Fin 16) (entry : Option Watch) :
    (s.setEntry i entry).pending = s.pending := rfl
@[simp] theorem State.setEntry_stationNumber (s : State) (i : Fin 16) (entry : Option Watch) :
    (s.setEntry i entry).stationNumber = s.stationNumber := rfl
@[simp] theorem State.setEntry_stationCount (s : State) (i : Fin 16) (entry : Option Watch) :
    (s.setEntry i entry).stationCount = s.stationCount := rfl
@[simp] theorem State.setEntry_slotSixteenths (s : State) (i : Fin 16) (entry : Option Watch) :
    (s.setEntry i entry).slotSixteenths = s.slotSixteenths := rfl
@[simp] theorem State.setEntry_cellMode (s : State) (i : Fin 16) (entry : Option Watch) (x : Fin 32) :
    (s.setEntry i entry).cellMode x = s.cellMode x := rfl
@[simp] theorem State.setEntry_cellPolicy (s : State) (i : Fin 16) (entry : Option Watch) (x : Fin 32) :
    (s.setEntry i entry).cellPolicy x = s.cellPolicy x := rfl
@[simp] theorem State.setEntry_configTag (s : State) (i : Fin 16) (entry : Option Watch) :
    (s.setEntry i entry).configTag = s.configTag := rfl
@[simp] theorem State.setEntry_watch (s : State) (i : Fin 16) (entry : Option Watch) :
    (s.setEntry i entry).watch = .ofEntries (s.watch.entries.set i entry) := rfl

/-! ### dropSent -/

@[simp] theorem State.dropSent_config (s : State) : s.dropSent.config = s.config := rfl
@[simp] theorem State.dropSent_bus (s : State) : s.dropSent.bus = s.bus := rfl
@[simp] theorem State.dropSent_frameCheck (s : State) : s.dropSent.frameCheck = s.frameCheck := rfl
@[simp] theorem State.dropSent_agreement (s : State) : s.dropSent.agreement = s.agreement := rfl
@[simp] theorem State.dropSent_cells (s : State) : s.dropSent.cells = s.cells := rfl
@[simp] theorem State.dropSent_controller (s : State) : s.dropSent.controller = s.controller := rfl
@[simp] theorem State.dropSent_transfer (s : State) : s.dropSent.transfer = s.transfer := rfl
@[simp] theorem State.dropSent_watch (s : State) : s.dropSent.watch = s.watch := rfl
@[simp] theorem State.dropSent_events (s : State) : s.dropSent.events = s.events := rfl
@[simp] theorem State.dropSent_host (s : State) : s.dropSent.host = s.host := rfl
@[simp] theorem State.dropSent_resetn (s : State) : s.dropSent.resetn = s.resetn := rfl
@[simp] theorem State.dropSent_rxd (s : State) : s.dropSent.rxd = s.rxd := rfl
@[simp] theorem State.dropSent_pending (s : State) : s.dropSent.pending = s.pending := rfl
@[simp] theorem State.dropSent_stationNumber (s : State) :
    s.dropSent.stationNumber = s.stationNumber := rfl
@[simp] theorem State.dropSent_stationCount (s : State) :
    s.dropSent.stationCount = s.stationCount := rfl
@[simp] theorem State.dropSent_slotSixteenths (s : State) :
    s.dropSent.slotSixteenths = s.slotSixteenths := rfl
@[simp] theorem State.dropSent_cellMode (s : State) (x : Fin 32) :
    s.dropSent.cellMode x = s.cellMode x := rfl
@[simp] theorem State.dropSent_cellPolicy (s : State) (x : Fin 32) :
    s.dropSent.cellPolicy x = s.cellPolicy x := rfl
@[simp] theorem State.dropSent_configTag (s : State) : s.dropSent.configTag = s.configTag := rfl
@[simp] theorem State.dropSent_posts (s : State) :
    s.dropSent.posts = ⟨s.posts.queuedPosts, s.posts.nextTag⟩ := rfl

/-! ### appendPost -/

@[simp] theorem State.appendPost_config (s : State) (kind : ContributionKind) (cell : Fin 32) (operand : Operand) :
    (s.appendPost kind cell operand).config = s.config := rfl
@[simp] theorem State.appendPost_bus (s : State) (kind : ContributionKind) (cell : Fin 32) (operand : Operand) :
    (s.appendPost kind cell operand).bus = s.bus := rfl
@[simp] theorem State.appendPost_frameCheck (s : State) (kind : ContributionKind) (cell : Fin 32) (operand : Operand) :
    (s.appendPost kind cell operand).frameCheck = s.frameCheck := rfl
@[simp] theorem State.appendPost_agreement (s : State) (kind : ContributionKind) (cell : Fin 32) (operand : Operand) :
    (s.appendPost kind cell operand).agreement = s.agreement := rfl
@[simp] theorem State.appendPost_cells (s : State) (kind : ContributionKind) (cell : Fin 32) (operand : Operand) :
    (s.appendPost kind cell operand).cells = s.cells := rfl
@[simp] theorem State.appendPost_controller (s : State) (kind : ContributionKind) (cell : Fin 32) (operand : Operand) :
    (s.appendPost kind cell operand).controller = s.controller := rfl
@[simp] theorem State.appendPost_transfer (s : State) (kind : ContributionKind) (cell : Fin 32) (operand : Operand) :
    (s.appendPost kind cell operand).transfer = s.transfer := rfl
@[simp] theorem State.appendPost_watch (s : State) (kind : ContributionKind) (cell : Fin 32) (operand : Operand) :
    (s.appendPost kind cell operand).watch = s.watch := rfl
@[simp] theorem State.appendPost_events (s : State) (kind : ContributionKind) (cell : Fin 32) (operand : Operand) :
    (s.appendPost kind cell operand).events = s.events := rfl
@[simp] theorem State.appendPost_host (s : State) (kind : ContributionKind) (cell : Fin 32) (operand : Operand) :
    (s.appendPost kind cell operand).host = s.host := rfl
@[simp] theorem State.appendPost_resetn (s : State) (kind : ContributionKind) (cell : Fin 32) (operand : Operand) :
    (s.appendPost kind cell operand).resetn = s.resetn := rfl
@[simp] theorem State.appendPost_rxd (s : State) (kind : ContributionKind) (cell : Fin 32) (operand : Operand) :
    (s.appendPost kind cell operand).rxd = s.rxd := rfl
@[simp] theorem State.appendPost_pending (s : State) (kind : ContributionKind) (cell : Fin 32) (operand : Operand) :
    (s.appendPost kind cell operand).pending = s.pending := rfl
@[simp] theorem State.appendPost_stationNumber (s : State) (kind : ContributionKind) (cell : Fin 32) (operand : Operand) :
    (s.appendPost kind cell operand).stationNumber = s.stationNumber := rfl
@[simp] theorem State.appendPost_stationCount (s : State) (kind : ContributionKind) (cell : Fin 32) (operand : Operand) :
    (s.appendPost kind cell operand).stationCount = s.stationCount := rfl
@[simp] theorem State.appendPost_slotSixteenths (s : State) (kind : ContributionKind) (cell : Fin 32) (operand : Operand) :
    (s.appendPost kind cell operand).slotSixteenths = s.slotSixteenths := rfl
@[simp] theorem State.appendPost_cellMode (s : State) (kind : ContributionKind) (cell : Fin 32) (operand : Operand) (x : Fin 32) :
    (s.appendPost kind cell operand).cellMode x = s.cellMode x := rfl
@[simp] theorem State.appendPost_cellPolicy (s : State) (kind : ContributionKind) (cell : Fin 32) (operand : Operand) (x : Fin 32) :
    (s.appendPost kind cell operand).cellPolicy x = s.cellPolicy x := rfl
@[simp] theorem State.appendPost_configTag (s : State) (kind : ContributionKind) (cell : Fin 32) (operand : Operand) :
    (s.appendPost kind cell operand).configTag = s.configTag := rfl

/-! ### packed -/

@[simp] theorem State.packed_config (s : State) : s.packed.config = s.config := rfl
@[simp] theorem State.packed_bus (s : State) : s.packed.bus = s.bus := rfl
@[simp] theorem State.packed_frameCheck (s : State) : s.packed.frameCheck = s.frameCheck := rfl
@[simp] theorem State.packed_agreement (s : State) : s.packed.agreement = s.agreement := rfl
@[simp] theorem State.packed_cells (s : State) : s.packed.cells = s.cells := rfl
@[simp] theorem State.packed_controller (s : State) : s.packed.controller = s.controller := rfl
@[simp] theorem State.packed_transfer (s : State) : s.packed.transfer = s.transfer := rfl
@[simp] theorem State.packed_watch (s : State) : s.packed.watch = s.watch := rfl
@[simp] theorem State.packed_events (s : State) : s.packed.events = s.events := rfl
@[simp] theorem State.packed_host (s : State) : s.packed.host = s.host := rfl
@[simp] theorem State.packed_resetn (s : State) : s.packed.resetn = s.resetn := rfl
@[simp] theorem State.packed_rxd (s : State) : s.packed.rxd = s.rxd := rfl
@[simp] theorem State.packed_pending (s : State) : s.packed.pending = s.pending := rfl
@[simp] theorem State.packed_stationNumber (s : State) :
    s.packed.stationNumber = s.stationNumber := rfl
@[simp] theorem State.packed_stationCount (s : State) :
    s.packed.stationCount = s.stationCount := rfl
@[simp] theorem State.packed_slotSixteenths (s : State) :
    s.packed.slotSixteenths = s.slotSixteenths := rfl
@[simp] theorem State.packed_cellMode (s : State) (x : Fin 32) :
    s.packed.cellMode x = s.cellMode x := rfl
@[simp] theorem State.packed_cellPolicy (s : State) (x : Fin 32) :
    s.packed.cellPolicy x = s.cellPolicy x := rfl
@[simp] theorem State.packed_configTag (s : State) : s.packed.configTag = s.configTag := rfl
@[simp] theorem State.packed_posts (s : State) :
    s.packed.posts = ⟨packPosts s.bus.round 4 s.posts.posts, s.posts.nextTag⟩ := rfl

/-! ### storeResult -/

@[simp] theorem State.storeResult_config (s : State) (tag : Byte) (r : PostResult) :
    (s.storeResult tag r).config = s.config := rfl
@[simp] theorem State.storeResult_bus (s : State) (tag : Byte) (r : PostResult) :
    (s.storeResult tag r).bus = s.bus := rfl
@[simp] theorem State.storeResult_frameCheck (s : State) (tag : Byte) (r : PostResult) :
    (s.storeResult tag r).frameCheck = s.frameCheck := rfl
@[simp] theorem State.storeResult_agreement (s : State) (tag : Byte) (r : PostResult) :
    (s.storeResult tag r).agreement = s.agreement := rfl
@[simp] theorem State.storeResult_cells (s : State) (tag : Byte) (r : PostResult) :
    (s.storeResult tag r).cells = s.cells := rfl
@[simp] theorem State.storeResult_controller (s : State) (tag : Byte) (r : PostResult) :
    (s.storeResult tag r).controller = s.controller := rfl
@[simp] theorem State.storeResult_transfer (s : State) (tag : Byte) (r : PostResult) :
    (s.storeResult tag r).transfer = s.transfer := rfl
@[simp] theorem State.storeResult_watch (s : State) (tag : Byte) (r : PostResult) :
    (s.storeResult tag r).watch = s.watch := rfl
@[simp] theorem State.storeResult_events (s : State) (tag : Byte) (r : PostResult) :
    (s.storeResult tag r).events = s.events := rfl
@[simp] theorem State.storeResult_host (s : State) (tag : Byte) (r : PostResult) :
    (s.storeResult tag r).host = s.host := rfl
@[simp] theorem State.storeResult_resetn (s : State) (tag : Byte) (r : PostResult) :
    (s.storeResult tag r).resetn = s.resetn := rfl
@[simp] theorem State.storeResult_rxd (s : State) (tag : Byte) (r : PostResult) :
    (s.storeResult tag r).rxd = s.rxd := rfl
@[simp] theorem State.storeResult_pending (s : State) (tag : Byte) (r : PostResult) :
    (s.storeResult tag r).pending = s.pending := rfl
@[simp] theorem State.storeResult_stationNumber (s : State) (tag : Byte) (r : PostResult) :
    (s.storeResult tag r).stationNumber = s.stationNumber := rfl
@[simp] theorem State.storeResult_stationCount (s : State) (tag : Byte) (r : PostResult) :
    (s.storeResult tag r).stationCount = s.stationCount := rfl
@[simp] theorem State.storeResult_slotSixteenths (s : State) (tag : Byte) (r : PostResult) :
    (s.storeResult tag r).slotSixteenths = s.slotSixteenths := rfl
@[simp] theorem State.storeResult_cellMode (s : State) (tag : Byte) (r : PostResult) (x : Fin 32) :
    (s.storeResult tag r).cellMode x = s.cellMode x := rfl
@[simp] theorem State.storeResult_cellPolicy (s : State) (tag : Byte) (r : PostResult) (x : Fin 32) :
    (s.storeResult tag r).cellPolicy x = s.cellPolicy x := rfl
@[simp] theorem State.storeResult_configTag (s : State) (tag : Byte) (r : PostResult) :
    (s.storeResult tag r).configTag = s.configTag := rfl
@[simp] theorem State.storeResult_posts (s : State) (tag : Byte) (r : PostResult) :
    (s.storeResult tag r).posts =
      ⟨s.posts.posts.map (Post.withResult tag r), s.posts.nextTag⟩ := rfl

/-! ### unqueueJoiner -/

@[simp] theorem State.unqueueJoiner_config (s : State) (n : Nat) :
    (s.unqueueJoiner n).config = s.config := rfl
@[simp] theorem State.unqueueJoiner_bus (s : State) (n : Nat) :
    (s.unqueueJoiner n).bus = s.bus := rfl
@[simp] theorem State.unqueueJoiner_frameCheck (s : State) (n : Nat) :
    (s.unqueueJoiner n).frameCheck = s.frameCheck := rfl
@[simp] theorem State.unqueueJoiner_agreement (s : State) (n : Nat) :
    (s.unqueueJoiner n).agreement = s.agreement := rfl
@[simp] theorem State.unqueueJoiner_cells (s : State) (n : Nat) :
    (s.unqueueJoiner n).cells = s.cells := rfl
@[simp] theorem State.unqueueJoiner_posts (s : State) (n : Nat) :
    (s.unqueueJoiner n).posts = s.posts := rfl
@[simp] theorem State.unqueueJoiner_controller (s : State) (n : Nat) :
    (s.unqueueJoiner n).controller = s.controller := rfl
@[simp] theorem State.unqueueJoiner_watch (s : State) (n : Nat) :
    (s.unqueueJoiner n).watch = s.watch := rfl
@[simp] theorem State.unqueueJoiner_events (s : State) (n : Nat) :
    (s.unqueueJoiner n).events = s.events := rfl
@[simp] theorem State.unqueueJoiner_host (s : State) (n : Nat) :
    (s.unqueueJoiner n).host = s.host := rfl
@[simp] theorem State.unqueueJoiner_resetn (s : State) (n : Nat) :
    (s.unqueueJoiner n).resetn = s.resetn := rfl
@[simp] theorem State.unqueueJoiner_rxd (s : State) (n : Nat) :
    (s.unqueueJoiner n).rxd = s.rxd := rfl
@[simp] theorem State.unqueueJoiner_pending (s : State) (n : Nat) :
    (s.unqueueJoiner n).pending = s.pending := rfl
@[simp] theorem State.unqueueJoiner_stationNumber (s : State) (n : Nat) :
    (s.unqueueJoiner n).stationNumber = s.stationNumber := rfl
@[simp] theorem State.unqueueJoiner_stationCount (s : State) (n : Nat) :
    (s.unqueueJoiner n).stationCount = s.stationCount := rfl
@[simp] theorem State.unqueueJoiner_slotSixteenths (s : State) (n : Nat) :
    (s.unqueueJoiner n).slotSixteenths = s.slotSixteenths := rfl
@[simp] theorem State.unqueueJoiner_cellMode (s : State) (n : Nat) (x : Fin 32) :
    (s.unqueueJoiner n).cellMode x = s.cellMode x := rfl
@[simp] theorem State.unqueueJoiner_cellPolicy (s : State) (n : Nat) (x : Fin 32) :
    (s.unqueueJoiner n).cellPolicy x = s.cellPolicy x := rfl
@[simp] theorem State.unqueueJoiner_configTag (s : State) (n : Nat) :
    (s.unqueueJoiner n).configTag = s.configTag := rfl
@[simp] theorem State.unqueueJoiner_transfer (s : State) (n : Nat) :
    (s.unqueueJoiner n).transfer =
      { s.transfer with joinQueue := s.transfer.joinQueue.filter (· ≠ n) } := rfl

/-! ### endService -/

@[simp] theorem State.endService_config (s : State) : s.endService.config = s.config := rfl
@[simp] theorem State.endService_bus (s : State) : s.endService.bus = s.bus := rfl
@[simp] theorem State.endService_frameCheck (s : State) :
    s.endService.frameCheck = s.frameCheck := rfl
@[simp] theorem State.endService_agreement (s : State) : s.endService.agreement = s.agreement := rfl
@[simp] theorem State.endService_cells (s : State) : s.endService.cells = s.cells := rfl
@[simp] theorem State.endService_posts (s : State) : s.endService.posts = s.posts := rfl
@[simp] theorem State.endService_controller (s : State) :
    s.endService.controller = s.controller := rfl
@[simp] theorem State.endService_watch (s : State) : s.endService.watch = s.watch := rfl
@[simp] theorem State.endService_events (s : State) : s.endService.events = s.events := rfl
@[simp] theorem State.endService_host (s : State) : s.endService.host = s.host := rfl
@[simp] theorem State.endService_resetn (s : State) : s.endService.resetn = s.resetn := rfl
@[simp] theorem State.endService_rxd (s : State) : s.endService.rxd = s.rxd := rfl
@[simp] theorem State.endService_pending (s : State) : s.endService.pending = s.pending := rfl
@[simp] theorem State.endService_stationNumber (s : State) :
    s.endService.stationNumber = s.stationNumber := rfl
@[simp] theorem State.endService_stationCount (s : State) :
    s.endService.stationCount = s.stationCount := rfl
@[simp] theorem State.endService_slotSixteenths (s : State) :
    s.endService.slotSixteenths = s.slotSixteenths := rfl
@[simp] theorem State.endService_cellMode (s : State) (x : Fin 32) :
    s.endService.cellMode x = s.cellMode x := rfl
@[simp] theorem State.endService_cellPolicy (s : State) (x : Fin 32) :
    s.endService.cellPolicy x = s.cellPolicy x := rfl
@[simp] theorem State.endService_configTag (s : State) : s.endService.configTag = s.configTag := rfl
@[simp] theorem State.endService_transfer (s : State) :
    s.endService.transfer = { s.transfer with serving := none } := rfl

/-! ### emptyDonor -/

@[simp] theorem State.emptyDonor_config (s : State) : s.emptyDonor.config = s.config := rfl
@[simp] theorem State.emptyDonor_bus (s : State) : s.emptyDonor.bus = s.bus := rfl
@[simp] theorem State.emptyDonor_frameCheck (s : State) :
    s.emptyDonor.frameCheck = s.frameCheck := rfl
@[simp] theorem State.emptyDonor_agreement (s : State) : s.emptyDonor.agreement = s.agreement := rfl
@[simp] theorem State.emptyDonor_cells (s : State) : s.emptyDonor.cells = s.cells := rfl
@[simp] theorem State.emptyDonor_posts (s : State) : s.emptyDonor.posts = s.posts := rfl
@[simp] theorem State.emptyDonor_controller (s : State) :
    s.emptyDonor.controller = s.controller := rfl
@[simp] theorem State.emptyDonor_watch (s : State) : s.emptyDonor.watch = s.watch := rfl
@[simp] theorem State.emptyDonor_events (s : State) : s.emptyDonor.events = s.events := rfl
@[simp] theorem State.emptyDonor_host (s : State) : s.emptyDonor.host = s.host := rfl
@[simp] theorem State.emptyDonor_resetn (s : State) : s.emptyDonor.resetn = s.resetn := rfl
@[simp] theorem State.emptyDonor_rxd (s : State) : s.emptyDonor.rxd = s.rxd := rfl
@[simp] theorem State.emptyDonor_pending (s : State) : s.emptyDonor.pending = s.pending := rfl
@[simp] theorem State.emptyDonor_stationNumber (s : State) :
    s.emptyDonor.stationNumber = s.stationNumber := rfl
@[simp] theorem State.emptyDonor_stationCount (s : State) :
    s.emptyDonor.stationCount = s.stationCount := rfl
@[simp] theorem State.emptyDonor_slotSixteenths (s : State) :
    s.emptyDonor.slotSixteenths = s.slotSixteenths := rfl
@[simp] theorem State.emptyDonor_cellMode (s : State) (x : Fin 32) :
    s.emptyDonor.cellMode x = s.cellMode x := rfl
@[simp] theorem State.emptyDonor_cellPolicy (s : State) (x : Fin 32) :
    s.emptyDonor.cellPolicy x = s.cellPolicy x := rfl
@[simp] theorem State.emptyDonor_configTag (s : State) : s.emptyDonor.configTag = s.configTag := rfl
@[simp] theorem State.emptyDonor_transfer (s : State) :
    s.emptyDonor.transfer = ⟨[], none, s.transfer.receiving⟩ := rfl

/-! ### setReceiving -/

@[simp] theorem State.setReceiving_config (s : State) (r : Option Receiving) :
    (s.setReceiving r).config = s.config := rfl
@[simp] theorem State.setReceiving_bus (s : State) (r : Option Receiving) :
    (s.setReceiving r).bus = s.bus := rfl
@[simp] theorem State.setReceiving_frameCheck (s : State) (r : Option Receiving) :
    (s.setReceiving r).frameCheck = s.frameCheck := rfl
@[simp] theorem State.setReceiving_agreement (s : State) (r : Option Receiving) :
    (s.setReceiving r).agreement = s.agreement := rfl
@[simp] theorem State.setReceiving_cells (s : State) (r : Option Receiving) :
    (s.setReceiving r).cells = s.cells := rfl
@[simp] theorem State.setReceiving_posts (s : State) (r : Option Receiving) :
    (s.setReceiving r).posts = s.posts := rfl
@[simp] theorem State.setReceiving_controller (s : State) (r : Option Receiving) :
    (s.setReceiving r).controller = s.controller := rfl
@[simp] theorem State.setReceiving_watch (s : State) (r : Option Receiving) :
    (s.setReceiving r).watch = s.watch := rfl
@[simp] theorem State.setReceiving_events (s : State) (r : Option Receiving) :
    (s.setReceiving r).events = s.events := rfl
@[simp] theorem State.setReceiving_host (s : State) (r : Option Receiving) :
    (s.setReceiving r).host = s.host := rfl
@[simp] theorem State.setReceiving_resetn (s : State) (r : Option Receiving) :
    (s.setReceiving r).resetn = s.resetn := rfl
@[simp] theorem State.setReceiving_rxd (s : State) (r : Option Receiving) :
    (s.setReceiving r).rxd = s.rxd := rfl
@[simp] theorem State.setReceiving_pending (s : State) (r : Option Receiving) :
    (s.setReceiving r).pending = s.pending := rfl
@[simp] theorem State.setReceiving_stationNumber (s : State) (r : Option Receiving) :
    (s.setReceiving r).stationNumber = s.stationNumber := rfl
@[simp] theorem State.setReceiving_stationCount (s : State) (r : Option Receiving) :
    (s.setReceiving r).stationCount = s.stationCount := rfl
@[simp] theorem State.setReceiving_slotSixteenths (s : State) (r : Option Receiving) :
    (s.setReceiving r).slotSixteenths = s.slotSixteenths := rfl
@[simp] theorem State.setReceiving_cellMode (s : State) (r : Option Receiving) (x : Fin 32) :
    (s.setReceiving r).cellMode x = s.cellMode x := rfl
@[simp] theorem State.setReceiving_cellPolicy (s : State) (r : Option Receiving) (x : Fin 32) :
    (s.setReceiving r).cellPolicy x = s.cellPolicy x := rfl
@[simp] theorem State.setReceiving_configTag (s : State) (r : Option Receiving) :
    (s.setReceiving r).configTag = s.configTag := rfl
@[simp] theorem State.setReceiving_transfer (s : State) (r : Option Receiving) :
    (s.setReceiving r).transfer = { s.transfer with receiving := r } := rfl

/-! ### advance -/

@[simp] theorem State.advance_config (s : State) (origin : Nat) (c : Contribution) :
    (s.advance origin c).config = s.config := rfl
@[simp] theorem State.advance_bus (s : State) (origin : Nat) (c : Contribution) :
    (s.advance origin c).bus = s.bus := rfl
@[simp] theorem State.advance_frameCheck (s : State) (origin : Nat) (c : Contribution) :
    (s.advance origin c).frameCheck = s.frameCheck := rfl
@[simp] theorem State.advance_cells (s : State) (origin : Nat) (c : Contribution) :
    (s.advance origin c).cells = s.cells := rfl
@[simp] theorem State.advance_posts (s : State) (origin : Nat) (c : Contribution) :
    (s.advance origin c).posts = s.posts := rfl
@[simp] theorem State.advance_controller (s : State) (origin : Nat) (c : Contribution) :
    (s.advance origin c).controller = s.controller := rfl
@[simp] theorem State.advance_transfer (s : State) (origin : Nat) (c : Contribution) :
    (s.advance origin c).transfer = s.transfer := rfl
@[simp] theorem State.advance_watch (s : State) (origin : Nat) (c : Contribution) :
    (s.advance origin c).watch = s.watch := rfl
@[simp] theorem State.advance_events (s : State) (origin : Nat) (c : Contribution) :
    (s.advance origin c).events = s.events := rfl
@[simp] theorem State.advance_host (s : State) (origin : Nat) (c : Contribution) :
    (s.advance origin c).host = s.host := rfl
@[simp] theorem State.advance_resetn (s : State) (origin : Nat) (c : Contribution) :
    (s.advance origin c).resetn = s.resetn := rfl
@[simp] theorem State.advance_rxd (s : State) (origin : Nat) (c : Contribution) :
    (s.advance origin c).rxd = s.rxd := rfl
@[simp] theorem State.advance_pending (s : State) (origin : Nat) (c : Contribution) :
    (s.advance origin c).pending = s.pending := rfl
@[simp] theorem State.advance_stationNumber (s : State) (origin : Nat) (c : Contribution) :
    (s.advance origin c).stationNumber = s.stationNumber := rfl
@[simp] theorem State.advance_stationCount (s : State) (origin : Nat) (c : Contribution) :
    (s.advance origin c).stationCount = s.stationCount := rfl
@[simp] theorem State.advance_slotSixteenths (s : State) (origin : Nat) (c : Contribution) :
    (s.advance origin c).slotSixteenths = s.slotSixteenths := rfl
@[simp] theorem State.advance_cellMode (s : State) (origin : Nat) (c : Contribution) (x : Fin 32) :
    (s.advance origin c).cellMode x = s.cellMode x := rfl
@[simp] theorem State.advance_cellPolicy (s : State) (origin : Nat) (c : Contribution) (x : Fin 32) :
    (s.advance origin c).cellPolicy x = s.cellPolicy x := rfl
@[simp] theorem State.advance_configTag (s : State) (origin : Nat) (c : Contribution) :
    (s.advance origin c).configTag = s.configTag := rfl
@[simp] theorem State.advance_agreement (s : State) (origin : Nat) (c : Contribution) :
    (s.advance origin c).agreement =
      { s.agreement with digest := advanceDigest s.agreement.digest origin c } := rfl

/-! ### foundSchedule -/

@[simp] theorem State.foundSchedule_config (s : State) : s.foundSchedule.config = s.config := rfl
@[simp] theorem State.foundSchedule_agreement (s : State) :
    s.foundSchedule.agreement = s.agreement := rfl
@[simp] theorem State.foundSchedule_cells (s : State) : s.foundSchedule.cells = s.cells := rfl
@[simp] theorem State.foundSchedule_posts (s : State) : s.foundSchedule.posts = s.posts := rfl
@[simp] theorem State.foundSchedule_controller (s : State) :
    s.foundSchedule.controller = s.controller := rfl
@[simp] theorem State.foundSchedule_transfer (s : State) :
    s.foundSchedule.transfer = s.transfer := rfl
@[simp] theorem State.foundSchedule_watch (s : State) : s.foundSchedule.watch = s.watch := rfl
@[simp] theorem State.foundSchedule_events (s : State) : s.foundSchedule.events = s.events := rfl
@[simp] theorem State.foundSchedule_host (s : State) : s.foundSchedule.host = s.host := rfl
@[simp] theorem State.foundSchedule_resetn (s : State) : s.foundSchedule.resetn = s.resetn := rfl
@[simp] theorem State.foundSchedule_rxd (s : State) : s.foundSchedule.rxd = s.rxd := rfl
@[simp] theorem State.foundSchedule_pending (s : State) : s.foundSchedule.pending = s.pending := rfl
@[simp] theorem State.foundSchedule_stationNumber (s : State) :
    s.foundSchedule.stationNumber = s.stationNumber := rfl
@[simp] theorem State.foundSchedule_stationCount (s : State) :
    s.foundSchedule.stationCount = s.stationCount := rfl
@[simp] theorem State.foundSchedule_slotSixteenths (s : State) :
    s.foundSchedule.slotSixteenths = s.slotSixteenths := rfl
@[simp] theorem State.foundSchedule_cellMode (s : State) (x : Fin 32) :
    s.foundSchedule.cellMode x = s.cellMode x := rfl
@[simp] theorem State.foundSchedule_cellPolicy (s : State) (x : Fin 32) :
    s.foundSchedule.cellPolicy x = s.cellPolicy x := rfl
@[simp] theorem State.foundSchedule_configTag (s : State) :
    s.foundSchedule.configTag = s.configTag := rfl

/-! ### synchronise -/

@[simp] theorem State.synchronise_config (s : State) (f : TallyFrame) (age : Nat) :
    (s.synchronise f age).config = s.config := rfl
@[simp] theorem State.synchronise_agreement (s : State) (f : TallyFrame) (age : Nat) :
    (s.synchronise f age).agreement = s.agreement := rfl
@[simp] theorem State.synchronise_cells (s : State) (f : TallyFrame) (age : Nat) :
    (s.synchronise f age).cells = s.cells := rfl
@[simp] theorem State.synchronise_posts (s : State) (f : TallyFrame) (age : Nat) :
    (s.synchronise f age).posts = s.posts := rfl
@[simp] theorem State.synchronise_transfer (s : State) (f : TallyFrame) (age : Nat) :
    (s.synchronise f age).transfer = s.transfer := rfl
@[simp] theorem State.synchronise_watch (s : State) (f : TallyFrame) (age : Nat) :
    (s.synchronise f age).watch = s.watch := rfl
@[simp] theorem State.synchronise_events (s : State) (f : TallyFrame) (age : Nat) :
    (s.synchronise f age).events = s.events := rfl
@[simp] theorem State.synchronise_host (s : State) (f : TallyFrame) (age : Nat) :
    (s.synchronise f age).host = s.host := rfl
@[simp] theorem State.synchronise_resetn (s : State) (f : TallyFrame) (age : Nat) :
    (s.synchronise f age).resetn = s.resetn := rfl
@[simp] theorem State.synchronise_rxd (s : State) (f : TallyFrame) (age : Nat) :
    (s.synchronise f age).rxd = s.rxd := rfl
@[simp] theorem State.synchronise_pending (s : State) (f : TallyFrame) (age : Nat) :
    (s.synchronise f age).pending = s.pending := rfl
@[simp] theorem State.synchronise_stationNumber (s : State) (f : TallyFrame) (age : Nat) :
    (s.synchronise f age).stationNumber = s.stationNumber := rfl
@[simp] theorem State.synchronise_stationCount (s : State) (f : TallyFrame) (age : Nat) :
    (s.synchronise f age).stationCount = s.stationCount := rfl
@[simp] theorem State.synchronise_slotSixteenths (s : State) (f : TallyFrame) (age : Nat) :
    (s.synchronise f age).slotSixteenths = s.slotSixteenths := rfl
@[simp] theorem State.synchronise_cellMode (s : State) (f : TallyFrame) (age : Nat) (x : Fin 32) :
    (s.synchronise f age).cellMode x = s.cellMode x := rfl
@[simp] theorem State.synchronise_cellPolicy (s : State) (f : TallyFrame) (age : Nat) (x : Fin 32) :
    (s.synchronise f age).cellPolicy x = s.cellPolicy x := rfl
@[simp] theorem State.synchronise_configTag (s : State) (f : TallyFrame) (age : Nat) :
    (s.synchronise f age).configTag = s.configTag := rfl

/-! ### setPhase -/

@[simp] theorem State.setPhase_config (s : State) (p : SelectPhase) :
    (s.setPhase p).config = s.config := rfl
@[simp] theorem State.setPhase_bus (s : State) (p : SelectPhase) : (s.setPhase p).bus = s.bus := rfl
@[simp] theorem State.setPhase_frameCheck (s : State) (p : SelectPhase) :
    (s.setPhase p).frameCheck = s.frameCheck := rfl
@[simp] theorem State.setPhase_agreement (s : State) (p : SelectPhase) :
    (s.setPhase p).agreement = s.agreement := rfl
@[simp] theorem State.setPhase_cells (s : State) (p : SelectPhase) :
    (s.setPhase p).cells = s.cells := rfl
@[simp] theorem State.setPhase_posts (s : State) (p : SelectPhase) :
    (s.setPhase p).posts = s.posts := rfl
@[simp] theorem State.setPhase_controller (s : State) (p : SelectPhase) :
    (s.setPhase p).controller = s.controller := rfl
@[simp] theorem State.setPhase_transfer (s : State) (p : SelectPhase) :
    (s.setPhase p).transfer = s.transfer := rfl
@[simp] theorem State.setPhase_watch (s : State) (p : SelectPhase) :
    (s.setPhase p).watch = s.watch := rfl
@[simp] theorem State.setPhase_events (s : State) (p : SelectPhase) :
    (s.setPhase p).events = s.events := rfl
@[simp] theorem State.setPhase_resetn (s : State) (p : SelectPhase) :
    (s.setPhase p).resetn = s.resetn := rfl
@[simp] theorem State.setPhase_rxd (s : State) (p : SelectPhase) : (s.setPhase p).rxd = s.rxd := rfl
@[simp] theorem State.setPhase_pending (s : State) (p : SelectPhase) :
    (s.setPhase p).pending = s.pending := rfl
@[simp] theorem State.setPhase_stationNumber (s : State) (p : SelectPhase) :
    (s.setPhase p).stationNumber = s.stationNumber := rfl
@[simp] theorem State.setPhase_stationCount (s : State) (p : SelectPhase) :
    (s.setPhase p).stationCount = s.stationCount := rfl
@[simp] theorem State.setPhase_slotSixteenths (s : State) (p : SelectPhase) :
    (s.setPhase p).slotSixteenths = s.slotSixteenths := rfl
@[simp] theorem State.setPhase_cellMode (s : State) (p : SelectPhase) (x : Fin 32) :
    (s.setPhase p).cellMode x = s.cellMode x := rfl
@[simp] theorem State.setPhase_cellPolicy (s : State) (p : SelectPhase) (x : Fin 32) :
    (s.setPhase p).cellPolicy x = s.cellPolicy x := rfl
@[simp] theorem State.setPhase_configTag (s : State) (p : SelectPhase) :
    (s.setPhase p).configTag = s.configTag := rfl
@[simp] theorem State.setPhase_host (s : State) (p : SelectPhase) :
    (s.setPhase p).host = { s.host with phase := p } := rfl

/-! ### endSelect -/

@[simp] theorem State.endSelect_config (s : State) : s.endSelect.config = s.config := rfl
@[simp] theorem State.endSelect_bus (s : State) : s.endSelect.bus = s.bus := rfl
@[simp] theorem State.endSelect_frameCheck (s : State) :
    s.endSelect.frameCheck = s.frameCheck := rfl
@[simp] theorem State.endSelect_agreement (s : State) : s.endSelect.agreement = s.agreement := rfl
@[simp] theorem State.endSelect_cells (s : State) : s.endSelect.cells = s.cells := rfl
@[simp] theorem State.endSelect_posts (s : State) : s.endSelect.posts = s.posts := rfl
@[simp] theorem State.endSelect_controller (s : State) :
    s.endSelect.controller = s.controller := rfl
@[simp] theorem State.endSelect_transfer (s : State) : s.endSelect.transfer = s.transfer := rfl
@[simp] theorem State.endSelect_watch (s : State) : s.endSelect.watch = s.watch := rfl
@[simp] theorem State.endSelect_events (s : State) : s.endSelect.events = s.events := rfl
@[simp] theorem State.endSelect_resetn (s : State) : s.endSelect.resetn = s.resetn := rfl
@[simp] theorem State.endSelect_rxd (s : State) : s.endSelect.rxd = s.rxd := rfl
@[simp] theorem State.endSelect_pending (s : State) : s.endSelect.pending = s.pending := rfl
@[simp] theorem State.endSelect_stationNumber (s : State) :
    s.endSelect.stationNumber = s.stationNumber := rfl
@[simp] theorem State.endSelect_stationCount (s : State) :
    s.endSelect.stationCount = s.stationCount := rfl
@[simp] theorem State.endSelect_slotSixteenths (s : State) :
    s.endSelect.slotSixteenths = s.slotSixteenths := rfl
@[simp] theorem State.endSelect_cellMode (s : State) (x : Fin 32) :
    s.endSelect.cellMode x = s.cellMode x := rfl
@[simp] theorem State.endSelect_cellPolicy (s : State) (x : Fin 32) :
    s.endSelect.cellPolicy x = s.cellPolicy x := rfl
@[simp] theorem State.endSelect_configTag (s : State) : s.endSelect.configTag = s.configTag := rfl
@[simp] theorem State.endSelect_host (s : State) :
    s.endSelect.host = { s.host with csn := true, phase := .idle, resetPending := false } := rfl

/-! ### install -/

@[simp] theorem State.install_bus (s : State) (c : Configuration) : (s.install c).bus = s.bus := rfl
@[simp] theorem State.install_agreement (s : State) (c : Configuration) :
    (s.install c).agreement = s.agreement := rfl
@[simp] theorem State.install_posts (s : State) (c : Configuration) :
    (s.install c).posts = s.posts := rfl
@[simp] theorem State.install_controller (s : State) (c : Configuration) :
    (s.install c).controller = s.controller := rfl
@[simp] theorem State.install_transfer (s : State) (c : Configuration) :
    (s.install c).transfer = s.transfer := rfl
@[simp] theorem State.install_watch (s : State) (c : Configuration) :
    (s.install c).watch = s.watch := rfl
@[simp] theorem State.install_events (s : State) (c : Configuration) :
    (s.install c).events = s.events := rfl
@[simp] theorem State.install_host (s : State) (c : Configuration) :
    (s.install c).host = s.host := rfl
@[simp] theorem State.install_resetn (s : State) (c : Configuration) :
    (s.install c).resetn = s.resetn := rfl
@[simp] theorem State.install_rxd (s : State) (c : Configuration) : (s.install c).rxd = s.rxd := rfl
@[simp] theorem State.install_pending (s : State) (c : Configuration) :
    (s.install c).pending = s.pending := rfl

/-! ### passTime -/

@[simp] theorem State.passTime_config (s : State) (n : Nat) :
    (s.passTime n).config = s.config := rfl
@[simp] theorem State.passTime_frameCheck (s : State) (n : Nat) :
    (s.passTime n).frameCheck = s.frameCheck := rfl
@[simp] theorem State.passTime_agreement (s : State) (n : Nat) :
    (s.passTime n).agreement = s.agreement := rfl
@[simp] theorem State.passTime_cells (s : State) (n : Nat) : (s.passTime n).cells = s.cells := rfl
@[simp] theorem State.passTime_posts (s : State) (n : Nat) : (s.passTime n).posts = s.posts := rfl
@[simp] theorem State.passTime_transfer (s : State) (n : Nat) :
    (s.passTime n).transfer = s.transfer := rfl
@[simp] theorem State.passTime_watch (s : State) (n : Nat) : (s.passTime n).watch = s.watch := rfl
@[simp] theorem State.passTime_events (s : State) (n : Nat) :
    (s.passTime n).events = s.events := rfl
@[simp] theorem State.passTime_host (s : State) (n : Nat) : (s.passTime n).host = s.host := rfl
@[simp] theorem State.passTime_resetn (s : State) (n : Nat) :
    (s.passTime n).resetn = s.resetn := rfl
@[simp] theorem State.passTime_pending (s : State) (n : Nat) :
    (s.passTime n).pending = s.pending := rfl
@[simp] theorem State.passTime_stationNumber (s : State) (n : Nat) :
    (s.passTime n).stationNumber = s.stationNumber := rfl
@[simp] theorem State.passTime_stationCount (s : State) (n : Nat) :
    (s.passTime n).stationCount = s.stationCount := rfl
@[simp] theorem State.passTime_slotSixteenths (s : State) (n : Nat) :
    (s.passTime n).slotSixteenths = s.slotSixteenths := rfl
@[simp] theorem State.passTime_cellMode (s : State) (n : Nat) (x : Fin 32) :
    (s.passTime n).cellMode x = s.cellMode x := rfl
@[simp] theorem State.passTime_cellPolicy (s : State) (n : Nat) (x : Fin 32) :
    (s.passTime n).cellPolicy x = s.cellPolicy x := rfl
@[simp] theorem State.passTime_configTag (s : State) (n : Nat) :
    (s.passTime n).configTag = s.configTag := rfl
@[simp] theorem State.passTime_rxd (s : State) (n : Nat) : (s.passTime n).rxd = s.rxd.later n := rfl
@[simp] theorem State.passTime_sync (s : State) (n : Nat) :
    (s.passTime n).bus.sync = s.bus.sync := rfl
@[simp] theorem State.passTime_slot (s : State) (n : Nat) :
    (s.passTime n).bus.slot = s.bus.slot := rfl
@[simp] theorem State.passTime_round (s : State) (n : Nat) :
    (s.passTime n).bus.round = s.bus.round := rfl
@[simp] theorem State.passTime_start (s : State) (n : Nat) :
    (s.passTime n).bus.start = s.bus.start := rfl
@[simp] theorem State.passTime_further (s : State) (n : Nat) :
    (s.passTime n).bus.further = s.bus.further := rfl
@[simp] theorem State.passTime_carried (s : State) (n : Nat) :
    (s.passTime n).bus.carried = s.bus.carried := rfl
@[simp] theorem State.passTime_loopback (s : State) (n : Nat) :
    (s.passTime n).bus.loopback = s.bus.loopback := rfl
@[simp] theorem State.passTime_tx (s : State) (n : Nat) : (s.passTime n).bus.tx = s.bus.tx := rfl
@[simp] theorem State.passTime_state (s : State) (n : Nat) :
    (s.passTime n).controller.state = s.controller.state := rfl
@[simp] theorem State.passTime_failures (s : State) (n : Nat) :
    (s.passTime n).controller.failures = s.controller.failures := rfl
@[simp] theorem State.passTime_waitCount (s : State) (n : Nat) :
    (s.passTime n).controller.waitCount = s.controller.waitCount := rfl
@[simp] theorem State.passTime_joinTimer (s : State) (n : Nat) :
    (s.passTime n).controller.joinTimer = s.controller.joinTimer := rfl
@[simp] theorem State.passTime_pendingLeave (s : State) (n : Nat) :
    (s.passTime n).controller.pendingLeave = s.controller.pendingLeave := rfl
@[simp] theorem State.passTime_leaveAtTxEnd (s : State) (n : Nat) :
    (s.passTime n).controller.leaveAtTxEnd = s.controller.leaveAtTxEnd := rfl

/-! ### passTo -/

@[simp] theorem State.passTo_config (s : State) (reading : Int) :
    (s.passTo reading).config = s.config := rfl
@[simp] theorem State.passTo_frameCheck (s : State) (reading : Int) :
    (s.passTo reading).frameCheck = s.frameCheck := rfl
@[simp] theorem State.passTo_agreement (s : State) (reading : Int) :
    (s.passTo reading).agreement = s.agreement := rfl
@[simp] theorem State.passTo_cells (s : State) (reading : Int) :
    (s.passTo reading).cells = s.cells := rfl
@[simp] theorem State.passTo_posts (s : State) (reading : Int) :
    (s.passTo reading).posts = s.posts := rfl
@[simp] theorem State.passTo_transfer (s : State) (reading : Int) :
    (s.passTo reading).transfer = s.transfer := rfl
@[simp] theorem State.passTo_watch (s : State) (reading : Int) :
    (s.passTo reading).watch = s.watch := rfl
@[simp] theorem State.passTo_events (s : State) (reading : Int) :
    (s.passTo reading).events = s.events := rfl
@[simp] theorem State.passTo_host (s : State) (reading : Int) :
    (s.passTo reading).host = s.host := rfl
@[simp] theorem State.passTo_resetn (s : State) (reading : Int) :
    (s.passTo reading).resetn = s.resetn := rfl
@[simp] theorem State.passTo_pending (s : State) (reading : Int) :
    (s.passTo reading).pending = s.pending := rfl
@[simp] theorem State.passTo_stationNumber (s : State) (reading : Int) :
    (s.passTo reading).stationNumber = s.stationNumber := rfl
@[simp] theorem State.passTo_stationCount (s : State) (reading : Int) :
    (s.passTo reading).stationCount = s.stationCount := rfl
@[simp] theorem State.passTo_slotSixteenths (s : State) (reading : Int) :
    (s.passTo reading).slotSixteenths = s.slotSixteenths := rfl
@[simp] theorem State.passTo_cellMode (s : State) (reading : Int) (x : Fin 32) :
    (s.passTo reading).cellMode x = s.cellMode x := rfl
@[simp] theorem State.passTo_cellPolicy (s : State) (reading : Int) (x : Fin 32) :
    (s.passTo reading).cellPolicy x = s.cellPolicy x := rfl
@[simp] theorem State.passTo_configTag (s : State) (reading : Int) :
    (s.passTo reading).configTag = s.configTag := rfl
@[simp] theorem State.passTo_rxd (s : State) (reading : Int) :
    (s.passTo reading).rxd = s.rxd.later (s.timeToReading reading) := rfl

/-! ### beginNextSlot -/

@[simp] theorem State.beginNextSlot_config (s : State) : s.beginNextSlot.config = s.config := rfl
@[simp] theorem State.beginNextSlot_agreement (s : State) :
    s.beginNextSlot.agreement = s.agreement := rfl
@[simp] theorem State.beginNextSlot_cells (s : State) : s.beginNextSlot.cells = s.cells := rfl
@[simp] theorem State.beginNextSlot_posts (s : State) : s.beginNextSlot.posts = s.posts := rfl
@[simp] theorem State.beginNextSlot_controller (s : State) :
    s.beginNextSlot.controller = s.controller := rfl
@[simp] theorem State.beginNextSlot_transfer (s : State) :
    s.beginNextSlot.transfer = s.transfer := rfl
@[simp] theorem State.beginNextSlot_watch (s : State) : s.beginNextSlot.watch = s.watch := rfl
@[simp] theorem State.beginNextSlot_events (s : State) : s.beginNextSlot.events = s.events := rfl
@[simp] theorem State.beginNextSlot_host (s : State) : s.beginNextSlot.host = s.host := rfl
@[simp] theorem State.beginNextSlot_resetn (s : State) : s.beginNextSlot.resetn = s.resetn := rfl
@[simp] theorem State.beginNextSlot_rxd (s : State) : s.beginNextSlot.rxd = s.rxd := rfl
@[simp] theorem State.beginNextSlot_pending (s : State) : s.beginNextSlot.pending = s.pending := rfl
@[simp] theorem State.beginNextSlot_stationNumber (s : State) :
    s.beginNextSlot.stationNumber = s.stationNumber := rfl
@[simp] theorem State.beginNextSlot_stationCount (s : State) :
    s.beginNextSlot.stationCount = s.stationCount := rfl
@[simp] theorem State.beginNextSlot_slotSixteenths (s : State) :
    s.beginNextSlot.slotSixteenths = s.slotSixteenths := rfl
@[simp] theorem State.beginNextSlot_cellMode (s : State) (x : Fin 32) :
    s.beginNextSlot.cellMode x = s.cellMode x := rfl
@[simp] theorem State.beginNextSlot_cellPolicy (s : State) (x : Fin 32) :
    s.beginNextSlot.cellPolicy x = s.cellPolicy x := rfl
@[simp] theorem State.beginNextSlot_configTag (s : State) :
    s.beginNextSlot.configTag = s.configTag := rfl
@[simp] theorem State.beginNextSlot_bus (s : State) :
    s.beginNextSlot.bus =
      { s.bus with
        slotTimer := s.bus.slotTimer - s.slotSixteenths, slot := s.nextSlot, round := s.nextRound
        start := .silent, further := false, carried := s.bus.run.isSome
        run := s.bus.run.map fun r => { r with isFrame := false }, loopback := [], tx := .idle } := rfl
@[simp] theorem State.beginNextSlot_frameCheck (s : State) :
    s.beginNextSlot.frameCheck = ⟨[], [], s.frameCheck.tag, none⟩ := rfl

/-! ### noteFall -/

@[simp] theorem State.noteFall_config (s : State) (fall : RxdFall) :
    (s.noteFall fall).config = s.config := rfl
@[simp] theorem State.noteFall_bus (s : State) (fall : RxdFall) :
    (s.noteFall fall).bus = s.bus := rfl
@[simp] theorem State.noteFall_frameCheck (s : State) (fall : RxdFall) :
    (s.noteFall fall).frameCheck = s.frameCheck := rfl
@[simp] theorem State.noteFall_agreement (s : State) (fall : RxdFall) :
    (s.noteFall fall).agreement = s.agreement := rfl
@[simp] theorem State.noteFall_cells (s : State) (fall : RxdFall) :
    (s.noteFall fall).cells = s.cells := rfl
@[simp] theorem State.noteFall_posts (s : State) (fall : RxdFall) :
    (s.noteFall fall).posts = s.posts := rfl
@[simp] theorem State.noteFall_controller (s : State) (fall : RxdFall) :
    (s.noteFall fall).controller = s.controller := rfl
@[simp] theorem State.noteFall_transfer (s : State) (fall : RxdFall) :
    (s.noteFall fall).transfer = s.transfer := rfl
@[simp] theorem State.noteFall_watch (s : State) (fall : RxdFall) :
    (s.noteFall fall).watch = s.watch := rfl
@[simp] theorem State.noteFall_events (s : State) (fall : RxdFall) :
    (s.noteFall fall).events = s.events := rfl
@[simp] theorem State.noteFall_host (s : State) (fall : RxdFall) :
    (s.noteFall fall).host = s.host := rfl
@[simp] theorem State.noteFall_resetn (s : State) (fall : RxdFall) :
    (s.noteFall fall).resetn = s.resetn := rfl
@[simp] theorem State.noteFall_pending (s : State) (fall : RxdFall) :
    (s.noteFall fall).pending = s.pending := rfl
@[simp] theorem State.noteFall_stationNumber (s : State) (fall : RxdFall) :
    (s.noteFall fall).stationNumber = s.stationNumber := rfl
@[simp] theorem State.noteFall_stationCount (s : State) (fall : RxdFall) :
    (s.noteFall fall).stationCount = s.stationCount := rfl
@[simp] theorem State.noteFall_slotSixteenths (s : State) (fall : RxdFall) :
    (s.noteFall fall).slotSixteenths = s.slotSixteenths := rfl
@[simp] theorem State.noteFall_cellMode (s : State) (fall : RxdFall) (x : Fin 32) :
    (s.noteFall fall).cellMode x = s.cellMode x := rfl
@[simp] theorem State.noteFall_cellPolicy (s : State) (fall : RxdFall) (x : Fin 32) :
    (s.noteFall fall).cellPolicy x = s.cellPolicy x := rfl
@[simp] theorem State.noteFall_configTag (s : State) (fall : RxdFall) :
    (s.noteFall fall).configTag = s.configTag := rfl
@[simp] theorem State.noteFall_rxd (s : State) (fall : RxdFall) :
    (s.noteFall fall).rxd = ⟨fall, 0⟩ := rfl

end Sys2Proof.Machine
end

