-- ==== Sys2Proof/Laws/Ops.lean ====
section
/-! SUPPORT. Laws/Ops: what the shared operations do, once each: station sets, the event queue, the
view, runs of events, the watches, the posts, and the commands as next states. -/

namespace Sys2Proof.Machine

/-! ### Sets of stations -/

theorem stationIn_only (n m : Nat) : stationIn (stationOnly n) m = (decide (m = n) && decide (m < 16)) := by
  unfold stationIn stationOnly
  rw [BitVec.getLsbD_shiftLeft, BitVec.getLsbD_one]
  by_cases h : m = n
  · subst h; by_cases h' : m < 16 <;> simp [h']
  · by_cases h' : m < 16
    · by_cases h2 : m < n
      · simp [h, h', h2]
      · have : m - n ≠ 0 := by omega
        simp [h, h', h2, this]
    · simp [h, h']

theorem stationIn_add (v : StationSet) (n m : Nat) :
    stationIn (stationAdd v n) m = (stationIn v m || (decide (m = n) && decide (m < 16))) := by
  rw [← stationIn_only]; unfold stationIn stationAdd; exact BitVec.getLsbD_or

theorem stationIn_remove (v : StationSet) (n m : Nat) :
    stationIn (stationRemove v n) m = (stationIn v m && !decide (m = n)) := by
  have h : (stationOnly n).getLsbD m = (decide (m = n) && decide (m < 16)) := stationIn_only n m
  unfold stationIn stationRemove
  rw [BitVec.getLsbD_and, BitVec.getLsbD_not, h]
  by_cases hm : m < 16
  · simp [hm]
  · simp [hm, BitVec.getLsbD_of_ge v m (by omega)]

theorem stationIn_zero (n : Nat) : stationIn 0 n = false := BitVec.getLsbD_zero

theorem noneBelow_iff (v : StationSet) (n : Nat) :
    noneBelow v n = true ↔ ∀ m, m < n → stationIn v m = false := by
  simp [noneBelow, List.all_eq_true]

/-! ### The event queue -/

theorem arrive_of_le_30 {q : List EventRecord} (h : q.length ≤ 30) (e : EventRecord) :
    arrive q e = q ++ [e] := by simp [arrive, h]

theorem arrive_lost {q : List EventRecord} {newest : EventRecord} (h : 31 ≤ q.length)
    (hq : q.getLast? = some newest) (hk : newest.kind ≠ .eventsLost) (e : EventRecord) :
    arrive q e = q ++ [e.lost] := by
  have : ¬ q.length ≤ 30 := by omega
  simp [arrive, this, hq, hk]

theorem arrive_fold {q : List EventRecord} {newest : EventRecord} (h : 31 ≤ q.length)
    (hq : q.getLast? = some newest) (hk : newest.kind = .eventsLost) (e : EventRecord) :
    arrive q e = q.dropLast ++ [newest.fold] := by
  have : ¬ q.length ≤ 30 := by omega
  simp [arrive, this, hq, hk]

/-- Everything an arrival can do. -/
theorem arrive_cases (q : List EventRecord) (e : EventRecord) :
    (q.length ≤ 30 ∧ arrive q e = q ++ [e]) ∨
      (31 ≤ q.length ∧ ∃ newest, q.getLast? = some newest ∧
        ((newest.kind ≠ .eventsLost ∧ arrive q e = q ++ [e.lost]) ∨
          (newest.kind = .eventsLost ∧ arrive q e = q.dropLast ++ [newest.fold]))) := by
  by_cases h : q.length ≤ 30
  · exact .inl ⟨h, arrive_of_le_30 h e⟩
  · have h31 : 31 ≤ q.length := by omega
    have hne : q ≠ [] := by rintro rfl; simp at h
    refine .inr ⟨h31, q.getLast hne, List.getLast?_eq_some_getLast hne, ?_⟩
    by_cases hk : (q.getLast hne).kind = .eventsLost
    · exact .inr ⟨hk, arrive_fold h31 (List.getLast?_eq_some_getLast hne) hk e⟩
    · exact .inl ⟨hk, arrive_lost h31 (List.getLast?_eq_some_getLast hne) hk e⟩

theorem arrive_ne_nil (q : List EventRecord) (e : EventRecord) : arrive q e ≠ [] := by
  rcases arrive_cases q e with ⟨-, h⟩ | ⟨-, _, -, ⟨-, h⟩ | ⟨-, h⟩⟩ <;> simp [h]

theorem arrived_append (q : List EventRecord) (l m : List EventRecord) :
    arrived q (l ++ m) = arrived (arrived q l) m := List.foldl_append

/-- Events queued one after another are those that arrive one after another. -/
theorem foldl_queueEvent (l : List EventRecord) (s : State) :
    l.foldl State.queueEvent s = { s with events := arrived s.events l } := by
  induction l generalizing s with
  | nil => rfl
  | cons e l ih => exact ih (s.queueEvent e)

/-! ### The view -/

theorem setView_view (s : State) (v : StationSet) : (s.setView v).agreement.view = v := by
  unfold State.setView; split <;> simp_all [State.latchViewChanged]

/-- A change of view reaches the view and the host port's latches only. -/
theorem setView_eq (s : State) (v : StationSet) :
    s.setView v = { s with
      agreement := { s.agreement with view := v }, host := (s.setView v).host } := by
  unfold State.setView; split
  · next h => subst h; rfl
  · rfl

theorem setView_same (s : State) : s.setView s.agreement.view = s := by simp [State.setView]

theorem setView_latches (s : State) (v : StationSet) (h : v ≠ s.agreement.view) :
    (s.setView v).host.latches = { s.host.latches with viewChanged := true } := by
  simp [State.setView, h, State.latchViewChanged]

/-! ### The cells -/

theorem setCell_cell_self (s : State) (i : Fin 32) (c : Cell) : (s.setCell i c).cell i = c := by
  simp [State.cell, State.setCell]

theorem setCell_cell_other (s : State) {i j : Fin 32} (c : Cell) (h : j ≠ i) :
    (s.setCell i c).cell j = s.cell j := by
  have : i.val ≠ j.val := fun h' => h (Fin.ext h'.symm)
  simp [State.cell, State.setCell, Vector.getElem_set_ne, this]

theorem ranged_residue (c : Cell) (m : CellMode) (p : CellPolicy) (r : Int) :
    (c.ranged m p r).residue = c.residue := by unfold Cell.ranged; split <;> rfl

theorem ranged_version (c : Cell) (m : CellMode) (p : CellPolicy) (r : Int) :
    (c.ranged m p r).version = c.version := by unfold Cell.ranged; split <;> rfl

theorem contribute_version (c : Cell) (m : CellMode) (p : CellPolicy) (k : ContributionKind)
    (x : Operand) : (c.contribute m p k x).1.version = c.version + 1 := by
  cases k <;>
    simp only [Cell.contribute, Cell.carryOut, Cell.counted, Cell.takeAmount, Cell.divideBy] <;>
    (try split) <;> (try split) <;> simp [ranged_version]

/-- A pattern made from a number in the range of a mode stands for that number in the mode. -/
theorem patternValue_ofInt (mode : CellMode) (x : Int) (hl : lowest mode ≤ x)
    (hh : x ≤ highest mode) : patternValue mode (BitVec.ofInt 40 x) = x := by
  cases mode
  · simp only [lowest, highest, patternValue, BitVec.toNat_ofInt] at *; omega
  · simp only [lowest, highest, patternValue, BitVec.toInt_ofInt, Int.bmod_def] at *
    norm_num at *; omega

/-! ### The watches -/

theorem lineLevel_iff (entries : Vector (Option Watch) 16) (line : Fin 4) :
    lineLevel entries line = true ↔ ∃ i : Fin 16, entryDrives line entries[i] = true := by
  have hall : ∀ i : Fin 16, i ∈ watchEntries := by decide
  simp only [lineLevel, List.any_eq_true]
  exact ⟨fun ⟨i, _, h⟩ => ⟨i, h⟩, fun ⟨i, h⟩ => ⟨i, hall i, h⟩⟩

theorem ofEntries_lines (entries : Vector (Option Watch) 16) (line : Fin 4) :
    (WatchUnit.ofEntries entries).lines[line] = lineLevel entries line := by
  match line with
  | 0 => rfl
  | 1 => rfl
  | 2 => rfl
  | 3 => rfl

/-- A retest reaches the watch table, its lines and the event queue only. -/
theorem retestWatch_eq (s : State) (i : Fin 16) (w : Watch) :
    s.retestWatch i w = { s with
      watch := (s.retestWatch i w).watch, events := (s.retestWatch i w).events } := by
  by_cases h : s.testWatch w = w.holds
  · simp [State.retestWatch, h]
  · simp only [State.retestWatch, h, ite_false]; rfl

theorem evaluateEntry_eq (cell : Fin 32) (kind : ContributionKind) (origin : Nat) (s : State)
    (i : Fin 16) :
    State.evaluateEntry cell kind origin s i = { s with
      watch := (State.evaluateEntry cell kind origin s i).watch
      events := (State.evaluateEntry cell kind origin s i).events } := by
  unfold State.evaluateEntry
  split
  · rfl
  · split
    · rfl
    · split
      · rfl
      · exact retestWatch_eq s i _

theorem foldl_evaluateEntry_eq (cell : Fin 32) (kind : ContributionKind) (origin : Nat)
    (l : List (Fin 16)) (s : State) :
    l.foldl (State.evaluateEntry cell kind origin) s = { s with
      watch := (l.foldl (State.evaluateEntry cell kind origin) s).watch
      events := (l.foldl (State.evaluateEntry cell kind origin) s).events } := by
  induction l generalizing s with
  | nil => rfl
  | cons i l ih =>
    rw [List.foldl_cons, ih, evaluateEntry_eq]

/-- The evaluation of a contribution reaches the watch table, its lines and the event queue only. -/
theorem evaluateWatches_eq (s : State) (cell : Fin 32) (kind : ContributionKind) (origin : Nat) :
    s.evaluateWatches cell kind origin = { s with
      watch := (s.evaluateWatches cell kind origin).watch
      events := (s.evaluateWatches cell kind origin).events } := by
  unfold State.evaluateWatches; split
  · exact foldl_evaluateEntry_eq cell kind origin _ s
  · rfl

/-- A contribution applied to its cell reaches that cell, the watches and the event queue only. -/
theorem applyToCell_eq (s : State) (origin : Nat) (c : Contribution) :
    s.applyToCell origin c = { s with
      cells := s.cells.set c.cell
        (s.cells[c.cell].contribute (s.cellMode c.cell) (s.cellPolicy c.cell) c.kind c.operand).1
      watch := (s.applyToCell origin c).watch, events := (s.applyToCell origin c).events } := by
  unfold State.applyToCell
  rw [evaluateWatches_eq]
  rfl

theorem reevaluateEntry_eq (s : State) (i : Fin 16) :
    s.reevaluateEntry i = { s with
      watch := (s.reevaluateEntry i).watch, events := (s.reevaluateEntry i).events } := by
  unfold State.reevaluateEntry
  split
  · rfl
  · split
    · rfl
    · exact retestWatch_eq s i _

theorem foldl_reevaluateEntry_eq (l : List (Fin 16)) (s : State) :
    l.foldl State.reevaluateEntry s = { s with
      watch := (l.foldl State.reevaluateEntry s).watch
      events := (l.foldl State.reevaluateEntry s).events } := by
  induction l generalizing s with
  | nil => rfl
  | cons i l ih => rw [List.foldl_cons, ih, reevaluateEntry_eq]

/-- A re-evaluation reaches the watch table, its lines and the event queue only. -/
theorem reevaluateWatches_eq (s : State) :
    s.reevaluateWatches = { s with
      watch := s.reevaluateWatches.watch, events := s.reevaluateWatches.events } :=
  foldl_reevaluateEntry_eq _ s

/-! ### Contribution lists -/

/-- A member's list of contributions: cells and digest as the rules compute them, the watches and the
event queue beside them, and nothing else. -/
theorem foldl_applyContribution (origin : Nat) (l : List Contribution) (s : State) :
    ∃ w e, l.foldl (State.applyContribution origin) s = { s with
      cells := contributed s s.cells l
      agreement := { s.agreement with digest := digested s.agreement.digest origin l }
      watch := w, events := e } := by
  induction l generalizing s with
  | nil => exact ⟨_, _, rfl⟩
  | cons c l ih =>
    rw [List.foldl_cons]
    obtain ⟨w, e, h⟩ := ih (State.applyContribution origin s c)
    refine ⟨w, e, ?_⟩
    rw [h, State.applyContribution, State.advance, applyToCell_eq]
    rfl

/-! ### The posts -/

theorem packPosts_zero (stamp : Round) (posts : List Post) : packPosts stamp 0 posts = posts := by
  cases posts <;> rfl

/-- A post keeps its tag, kind, cell and operand when it is packed. -/
theorem packPosts_map {α : Type} (g : Post → α) (hg : ∀ p st, g { p with status := st } = g p)
    (stamp : Round) (n : Nat) (posts : List Post) :
    (packPosts stamp n posts).map g = posts.map g := by
  induction posts generalizing n with
  | nil => cases n <;> rfl
  | cons p rest ih =>
    cases n with
    | zero => rfl
    | succ n =>
      unfold packPosts
      split
      · rw [List.map_cons, List.map_cons, ih, hg]
      · rw [List.map_cons, List.map_cons, ih]

/-- Settlement: the SENT posts leave, and their events arrive in order. -/
theorem settlePosts_eq (s : State) :
    s.settlePosts = { s with
      posts := { s.posts with posts := s.posts.queuedPosts }
      events := arrived s.events (s.posts.sentPosts.map s.settledEvent) } := by
  unfold State.settlePosts; rw [foldl_queueEvent]; rfl

/-- Doubt: the SENT posts leave, and their events arrive in order. -/
theorem doubtPosts_eq (s : State) :
    s.doubtPosts = { s with
      posts := { s.posts with posts := s.posts.queuedPosts }
      events := arrived s.events (s.posts.sentPosts.map s.doubtfulEvent) } := by
  unfold State.doubtPosts; rw [foldl_queueEvent]; rfl

/-! ### The donor -/

/-- The donor's decision reaches the Transfer Unit's donor side and the event queue only. -/
theorem donorDecision_eq (s : State) :
    s.donorDecision.1 = { s with
      transfer := { s.transfer with
        joinQueue := s.donorDecision.1.transfer.joinQueue
        serving := s.donorDecision.1.transfer.serving }
      events := s.donorDecision.1.events } := by
  have start : ∀ t : State, t.startService.1 = { t with
      transfer := { t.transfer with
        joinQueue := t.startService.1.transfer.joinQueue
        serving := t.startService.1.transfer.serving }
      events := t.startService.1.events } := by
    intro t; unfold State.startService; split <;> rfl
  have leave : ∀ (sv : Serving) (reason : Nat), (s.abandon sv reason).1 = { s with
      transfer := { s.transfer with
        joinQueue := (s.abandon sv reason).1.transfer.joinQueue
        serving := (s.abandon sv reason).1.transfer.serving }
      events := (s.abandon sv reason).1.events } := by
    intro sv reason; unfold State.abandon; rw [start]; rfl
  unfold State.donorDecision
  split
  · split
    · exact start s
    · split
      · rfl
      · split
        · rfl
        · split
          · rfl
          · exact leave _ _
      · exact leave _ _
      · exact leave _ _
      · exact leave _ _
      · exact leave _ _
  · rfl

/-! ### The line -/

@[simp] theorem later_zero (r : Rxd) : r.later 0 = r := rfl

@[simp] theorem later_later (r : Rxd) (m n : Nat) : (r.later m).later n = r.later (m + n) := by
  simp [Rxd.later, Nat.add_assoc]

@[simp] theorem later_idleAt (r : Rxd) (n : Nat) : (r.later n).idleAt = r.idleAt := rfl

theorem later_highAfter (r : Rxd) (m n : Nat) : (r.later m).highAfter n = r.highAfter (m + n) := by
  show Rxd.highAfter ⟨r.fall, r.age + m⟩ n = r.highAfter (m + n)
  unfold Rxd.highAfter
  dsimp only
  rw [Nat.add_assoc]; rfl

/-- While a low stop bit keeps RXD low, it has been high for no time. -/
theorem highAfter_of_low (r : Rxd) (n : Nat) (h : stopLow r.fall.samples = true)
    (h10 : bits 10 ≤ r.age + n) (hlow : r.age + n ≤ r.idleAt) : r.highAfter n = 0 := by
  simp [Rxd.highAfter, h, h10]; omega

/-- R37, R103: however time passes, the listen timer never exceeds the time RXD has been high. -/
theorem passTime_listenTimer (s : State) (n : Nat) (h : s.controller.state = .listen) :
    (s.passTime n).controller.listenTimer ≤ (s.passTime n).rxd.highAfter 0 := by
  rw [State.passTime_rxd, later_highAfter]
  simp [State.passTime, State.listenAfter, h]

theorem endRun_of_none (s : State) (h : s.bus.run = none) : s.endRun = s := by
  simp [State.endRun, h]

theorem endRunIfOver_of_none (s : State) (h : s.bus.run = none) : s.endRunIfOver = s := by
  simp [State.endRunIfOver, endRun_of_none s h]

/-- A character captured reaches the loopback capture only, and that holds at most 93. -/
theorem captureCharacter_eq (s : State) (b : Byte) :
    s.captureCharacter b = { s with bus := { s.bus with loopback :=
      if s.bus.tx ≠ .idle ∧ s.bus.loopback.length < 93 then s.bus.loopback ++ [b]
      else s.bus.loopback } } := by
  unfold State.captureCharacter; split <;> rfl

theorem captureCharacter_length (s : State) (b : Byte) (h : s.bus.loopback.length ≤ 93) :
    (s.captureCharacter b).bus.loopback.length ≤ 93 := by
  rw [captureCharacter_eq]; split <;> simp <;> omega

/-! ### Judging -/

/-- R51: a run is INTACT only when it passes every check, and then its fields are those that were read. -/
theorem judgeRun_intact (owner : Option Nat) (count : Nat) (tag : Byte) (length : Nat)
    (lowStop : Bool) (bytes : List Byte) (f : Frame) (m : Bool)
    (h : judgeRun owner count tag length lowStop bytes = .intact f m) :
    lowStop = false ∧ namesKind bytes = true ∧ reachesLength bytes length = true ∧
      withinLength bytes length = true ∧ crcMatches bytes = true ∧
      senderFits owner count tag bytes = true ∧ readFrame bytes = some f ∧
      m = decide (f.tag = tag) := by
  unfold judgeRun at h
  split at h
  · cases h
  split at h
  · cases h
  split at h
  · cases h
  split at h
  · cases h
  split at h
  · cases h
  split at h
  · cases h
  split at h
  · next f' hf => cases h; simp_all
  · cases h

/-- R105: a BAD run does nothing to an unsynchronised listener. -/
@[simp] theorem unsynchronisedFrame_bad (s : State) (reason : BadReason) (age : Nat) :
    s.unsynchronisedFrame (.bad reason) age = s := rfl

/-! ### The commands as next states -/

theorem exec_selectEnd_low (s : State) (h : s.host.csn = false) :
    exec .selectEnd s =
      .next (if s.host.resetPending then s.endSelect.requestReset else s.endSelect) := by
  simp [exec, execSelectEnd, h]

theorem exec_slotEnd (s : State) :
    exec .slotEnd s = .next (if s.bus.sync then s.endSlot else s) := rfl

/-- The end of a slot in which no own frame is on the line, with no run in progress or one that lasts
past the boundary. -/
theorem exec_slotEnd_quiet (s : State) (hs : s.bus.sync = true) (ht : s.bus.tx ≠ .sending)
    (hr : s.bus.run = none ∨ s.rxdAtSlotEnd.endsRun = false) :
    exec .slotEnd s = .next (s.passTo s.slotSixteenths).slotBoundary := by
  have h : (s.passTo s.slotSixteenths).endRunIfOver = s.passTo s.slotSixteenths := by
    rcases hr with hr | hr
    · exact endRunIfOver_of_none _ (by simp [State.passTo, State.passTime, hr])
    · have : (s.passTo s.slotSixteenths).rxd.endsRun = false := by
        rw [State.passTo_rxd]; exact hr
      simp only [State.endRunIfOver, this, Bool.false_eq_true, if_false]
  simp [exec_slotEnd, hs, State.endSlot, ht, h]

/-- R27, R30: when the slot that ended has been judged and the station is still in the schedule, the next
slot begins; the own slot start, if it is due, comes after. -/
theorem slotBoundary_synchronised (s : State) (h : (s.judgeSlot s.slotVerdict).bus.sync = true) :
    s.slotBoundary = (s.judgeSlot s.slotVerdict).beginNextSlot.signalOwnSlot := by
  simp [State.slotBoundary, h]

/-- R35: a loopback is intact only with an INTACT frame, equal characters and no run carried over. -/
theorem loopbackIntact_some (s : State) (v : Verdict) (f : Frame)
    (h : s.loopbackIntact v = some f) :
    (∃ g m, v = .intact g m) ∧ s.bus.loopback = s.frameCheck.transmit ∧ s.bus.carried = false ∧
      readFrame s.frameCheck.transmit = some f := by
  unfold State.loopbackIntact at h
  split at h
  · split at h
    · next hc => exact ⟨⟨_, _, rfl⟩, hc.1, hc.2, h⟩
    · cases h
  · cases h
  · cases h

/-- A request with all its parameter bytes, in a select period that waits for its code byte. -/
theorem shiftRequest_code (s : State) (code : Byte) (params : List Byte) (h : s.awaitsCode)
    (hp : (requestParameters code).getD 0 = params.length) :
    s.shiftRequest code params = s.takeRequest code params := by
  have hc : s.host.phase = .code := h
  simp [State.shiftRequest, hc, State.gather, hp]

end Sys2Proof.Machine
end

