-- ==== Sys2Proof/WellFormed.lean ====
section
/-! DEFINITION. WellFormed: which commands the outside world can give: a host sends at most the
parameter bytes a request has (what it sends later is not a parameter, R163), and MALFORMED stands for
a code byte outside the table of R166. -/

namespace Sys2Proof

/-- The well-formedness of a command: no request carries more parameter bytes than R166 gives it, and
a MALFORMED request's code is not in R166's table. -/
def Instr.WellFormed (i : Instr) : Bool :=
  match i with
  | .configure params => params.length ≤ 12
  | .post params => params.length ≤ 6
  | .cancel params => params.length ≤ 1
  | .queryPost params => params.length ≤ 1
  | .readCell params => params.length ≤ 1
  | .setWatch params => params.length ≤ 8
  | .clearWatch params => params.length ≤ 1
  | .readWatch params => params.length ≤ 1
  | .malformed code => (requestParameters code).isNone
  | .powerOn => true
  | .resetnAssert => true
  | .resetnRelease => true
  | .selectStart => true
  | .selectEnd => true
  | .status => true
  | .latchClear => true
  | .start => true
  | .leave => true
  | .reset => true
  | .takeEvent => true
  | .eventRemoval => true
  | .busActivity _ _ => true
  | .runEnd _ => true
  | .slotEnd => true
  | .ownTransmissionStart => true
  | .transmissionEnd => true
  | .listenTimerExpiry => true

end Sys2Proof
end

