-- ==== Sys2Proof/Tests/Slice0.lean ====
section
/-! SUPPORT. Tests/Slice0: the smoke test of WellFormed, the manual's worked examples on single steps and
operations, and for each statement with hypotheses a witness that meets them. -/

namespace Sys2Proof.Tests

open Sys2Proof Sys2Proof.Machine

-- One theorem after another: the many `decide`s in parallel take a large stack each.
set_option Elab.async false

/-- A decidable fact that holds by computation, whatever its variables. -/
theorem ok {p : Prop} [Decidable p] (h : decide p = true := by rfl) : p := of_decide_eq_true h

/-! ### Well-formedness: one ill-formed command for each check -/

theorem test_wf_configure : (Instr.configure (List.replicate 13 0)).WellFormed = false := by decide
theorem test_wf_post : (Instr.post (List.replicate 7 0)).WellFormed = false := by decide
theorem test_wf_cancel : (Instr.cancel [1, 2]).WellFormed = false := by decide
theorem test_wf_queryPost : (Instr.queryPost [1, 2]).WellFormed = false := by decide
theorem test_wf_readCell : (Instr.readCell [1, 2]).WellFormed = false := by decide
theorem test_wf_setWatch : (Instr.setWatch (List.replicate 9 0)).WellFormed = false := by decide
theorem test_wf_clearWatch : (Instr.clearWatch [1, 2]).WellFormed = false := by decide
theorem test_wf_readWatch : (Instr.readWatch [1, 2]).WellFormed = false := by decide
theorem test_wf_malformed : (Instr.malformed 0x10).WellFormed = false := by decide

/-! ### States to test on -/

/-- Station n of four, 250 000 bit/s, slots of 1024 bit times, every cell UNSIGNED with WRAP. -/
def four (n : Nat) : Configuration := ⟨n, 4, 0, 16, 0⟩

/-- A configured station in a state. -/
def station (n : Nat) (st : StationState) : State :=
  { State.reset with
    config := some (four n)
    frameCheck := { FrameCheck.reset with tag := some (configTagOf (four n)) }
    controller := { Controller.reset with state := st } }

/-- The same station in a select period that waits for its code byte. -/
def selected (s : State) : State := { s with host := { s.host with csn := false, phase := .code } }

/-- The same station synchronised, in round 7 and a slot. -/
def inSlot (slot : Nat) (s : State) : State :=
  { s with bus := { s.bus with sync := true, slotTimer := 600, slot := slot, round := 7 } }

/-- A member with a view and the digest 5, in a slot of round 7. -/
def member (n slot : Nat) (view : StationSet) : State :=
  let s := inSlot slot (station n .member)
  { s with agreement := { s.agreement with view := view, digest := 5 } }

/-- A slot about to end with a frame that began at an offset in the window. -/
def heard (v : Verdict) (s : State) : State :=
  { s with
    bus := { s.bus with start := .inWindow 520 }
    frameCheck := { s.frameCheck with judged := some v } }

/-- A slot about to end with the station's own frame sent and heard back. -/
def sentAndHeard (f : Frame) (s : State) : State :=
  { heard (.intact f true) s with
    bus := { s.bus with start := .inWindow 512, tx := .sent, loopback := f.bytes }
    frameCheck := { s.frameCheck with transmit := f.bytes, judged := some (.intact f true) } }

/-- A slot ten sixteenths before its end, with a run in progress whose latest character began `age`
sixteenths ago. -/
def running (r : Run) (age : Nat) (s : State) : State :=
  { s with bus := { s.bus with run := some r, slotTimer := 16374 }, rxd := ⟨⟨0x2AA, 0⟩, age⟩ }

/-- A station with a transfer record. -/
def transferring (x : Transfer) (s : State) : State := { s with transfer := x }

/-- A station with posts. -/
def posting (posts : List Post) (s : State) : State := { s with posts := ⟨posts, 44⟩ }

/-- A station with watches in its first entries. -/
def watching (watches : List Watch) (s : State) : State :=
  { s with watch := .ofEntries (Vector.ofFn fun i => watches[i.val]?) }

/-- A station with events. -/
def eventful (n : Nat) (last : EventKind) (s : State) : State :=
  { s with events := List.replicate (n - 1) (s.blankEvent .peerJoined) ++ [s.blankEvent last] }

/-- A TALLY frame of a sender in round 7 with the view {0, 1, 2} and the digest 5. -/
def tally (sender : Nat) (list : List Contribution) (x : Option TransferSection) : TallyFrame :=
  ⟨sender, 7, configTagOf (four 1), 7, 5, false, list, x⟩

/-- A FAREWELL frame of a sender. -/
def farewell (sender : Nat) : TallyFrame := { tally sender [] none with farewell := true }

/-- A JOIN frame of a sender. -/
def joinOf (sender : Nat) (expect : Option Nat) : JoinFrame :=
  ⟨sender, 7, configTagOf (four 1), expect⟩

/-- A transfer section for a joiner. -/
def section_ (joiner first : Nat) : TransferSection :=
  ⟨joiner, first, Vector.replicate 4 ⟨9, 0, ⟨false, false, false⟩, 3⟩⟩

/-- TAKE 1 on cell 0 under tag 42. -/
def take1 : Contribution := ⟨.take, 0, 42, 1⟩

/-- The same as a post. -/
def take1Post (st : PostStatus) : Post := ⟨42, .take, 0, 1, st⟩

/-- The answer of a command, the state itself where it stops. -/
def after (i : Instr) (s : State) : State :=
  match exec i s with
  | .next t => t
  | .fault _ => s
  | .refused _ => s

/-! ### Worked examples of the manual -/

/-- 01 section 1.6: SUB 2 on an UNSIGNED SATURATE cell that holds 0. -/
theorem test_saturating_sub :
    (Cell.mk 0 0 ⟨false, false, false⟩ 45).contribute .unsigned .saturate .sub 2 =
      (⟨0, 0, ⟨true, false, false⟩, 46⟩, .applied) := by decide

/-- 01 section 1.6: SUB 7 on an UNSIGNED WRAP cell that holds 5. -/
theorem test_wrapping_sub :
    (Cell.mk 5 0 ⟨false, false, false⟩ 0).contribute .unsigned .wrap .sub 7 =
      (⟨1099511627774, 0, ⟨true, false, false⟩, 1⟩, .applied) := by decide

/-- 01 section 1.6: TAKE −100 on a SIGNED cell near its top, under WRAP. -/
theorem test_signed_take_wraps :
    (Cell.mk 549755813880 0 ⟨false, false, false⟩ 0).contribute .signed .wrap .take 0xFFFFFF9C =
      (⟨BitVec.ofInt 40 (-549755813796), 0, ⟨false, true, false⟩, 1⟩, .granted) := by decide

/-- 01 section 1.6: DIVIDE 7 of 100. -/
theorem test_divide :
    (Cell.mk 100 0 ⟨true, false, true⟩ 4).contribute .unsigned .wrap .divide 7 =
      (⟨14, 2, ⟨true, false, true⟩, 5⟩, .applied) := by decide

/-- 01 section 1.6: DIVIDE −1 of −2^39 under SATURATE. -/
theorem test_divide_at_edge :
    (Cell.mk (BitVec.ofInt 40 (-549755813888)) 5 ⟨false, false, false⟩ 0).contribute .signed
        .saturate .divide 0xFFFFFFFF =
      (⟨549755813887, 0, ⟨false, true, false⟩, 1⟩, .applied) := by decide

/-- 01 section 1.6: MADD 250 × 12. -/
theorem test_madd :
    (Cell.mk 1000 0 ⟨false, false, false⟩ 0).contribute .unsigned .saturate .madd 0x00FA000C =
      (⟨4000, 0, ⟨false, false, false⟩, 1⟩, .applied) := by decide

/-- 05 R84: with 254, 255 and 0 held, the counter at 254 gives the tag 1. -/
theorem test_tag_wraps :
    freeTag [⟨254, .add, 0, 0, .queued⟩, ⟨255, .add, 0, 0, .queued⟩, ⟨0, .add, 0, 0, .queued⟩] 16
      254 = 1 := by decide

/-- 05 R84: with 40, 41 and 43 held, the counter at 40 gives the tag 42. -/
theorem test_tag_first_free :
    freeTag [⟨40, .add, 0, 0, .queued⟩, ⟨41, .add, 0, 0, .queued⟩, ⟨43, .add, 0, 0, .queued⟩] 16
      40 = 42 := by decide

set_option maxRecDepth 20000 in
/-- The published check value of the CRC of R48 (polynomial 0x1021, start 0xFFFF) over the ASCII digits
1 to 9. -/
theorem test_crc :
    frameCrc [0x31, 0x32, 0x33, 0x34, 0x35, 0x36, 0x37, 0x38, 0x39] = 0x29B1 := by decide

/-- 10 section 10.8: a member with two events captures the summary byte 0x0D. -/
theorem test_summary :
    (after .selectStart (eventful 2 .peerLeft (member 1 2 7))).host.summary = 0x0D := by decide

/-- 10 section 10.8: POST of TAKE 1 on cell 0 is answered OK with the tag 42 in exchanges 7 and 8. -/
theorem test_post_reply :
    let s := after (.post [6, 0, 0, 0, 0, 1])
      (selected { member 1 2 7 with posts := ⟨[], 42⟩ })
    [6, 7, 8, 9].map s.sdoByte = [some 0, some 0, some 0x2A, some 0] := by decide

/-- 10 R176: the first summary byte after a release of RESETn reads state 0, ATN 0, stale 1. -/
theorem test_summary_after_reset :
    (after .selectStart (after .resetnRelease (after .resetnAssert (member 1 2 7)))).host.summary
      = 0x10 := by decide

/-- 03 section 3.8: the donor of the example, at the end of the joiner's slot in round 36, which carried
a JOIN with expect 8. -/
def donor : State :=
  heard (.intact (.join ⟨3, 36, configTagOf (four 0), some 8⟩) true)
    (posting [⟨17, .take, 0, 1, .queued⟩, ⟨18, .add, 4, 250, .queued⟩]
      (transferring ⟨[3], some ⟨3, 8, .none⟩, none⟩
        { member 0 3 7 with
          agreement := ⟨7, 0x3E91, 0, 0, 0⟩
          bus := { (member 0 3 7).bus with round := 36 } }))

set_option maxRecDepth 20000 in
/-- 03 section 3.8: the frame has 79 bytes and is read back with two contributions and a section for
joiner 3 at first index 8. -/
theorem test_donor_frame :
    (after .slotEnd donor).frameCheck.transmit.length = 79 ∧
      readFrame (after .slotEnd donor).frameCheck.transmit =
        some (.tally ⟨0, 37, configTagOf (four 0), 7, 0x3E91, false,
          [⟨.take, 0, 17, 1⟩, ⟨.add, 4, 18, 250⟩],
          some ⟨3, 8, Vector.replicate 4 Cell.initial⟩⟩) := by decide

set_option maxRecDepth 20000 in
/-- 03 section 3.8: a sound JOIN with expect 12 is INTACT, one with expect 13 is BAD(FORMAT). -/
theorem test_join_expect :
    judgeRun (some 2) 4 (configTagOf (four 1)) 7 false (Frame.join (joinOf 2 (some 12))).bytes =
        .intact (.join (joinOf 2 (some 12))) true ∧
      judgeRun (some 2) 4 (configTagOf (four 1)) 7 false (Frame.join (joinOf 2 (some 13))).bytes =
        .bad .format := by decide

/-- 03 section 3.8: the first byte's upper bits 0011 name no kind. -/
theorem test_no_such_kind : judgeRun (some 2) 4 0 7 false [0x32, 0, 0, 0, 0, 0, 0] = .bad .format := by
  decide

/-- R32: a frame that began at offset 32.5 moves the timer back by half a bit time. -/
theorem test_correction :
    (after .slotEnd (heard (.intact (.tally (tally 2 [] none)) true) (member 1 2 7))).bus.slotTimer
      = -8 := by decide

/-- R71: MEMBER 1 queues station 3 that asks to join. -/
theorem test_join_request :
    (after .slotEnd (heard (.intact (.join (joinOf 3 none)) true) (member 1 3 7))).transfer.joinQueue
      = [3] := by decide

/-- R103, R104: a listener whose timer expires founds at its own slot, round 0, and is a MEMBER. -/
theorem test_found :
    let t := after .listenTimerExpiry (station 1 .listen)
    t.controller.state = .member ∧ t.bus.slot = 1 ∧ t.bus.round = 0 ∧ t.agreement.view = 2 := by
  decide

/-- R37, R103: a station started on a bus that is held low does not count silence. -/
theorem test_bus_held_low :
    let s := after .start (selected { station 1 .ready with rxd := ⟨⟨0, 100000⟩, 500⟩ })
    s.controller.state = .listen ∧ (s.passTime 99000).controller.listenTimer = 0 ∧
      (s.passTime 100000).controller.listenTimer = 340 := by decide

set_option maxRecDepth 20000 in
/-- R25: after a low stop bit and five bit times of low level, a start bit one bit time after the line
has returned high adds to the run in progress; two bit times and a half after it, it begins another. -/
theorem test_low_stop_bit_run :
    let s := after (.busActivity 0 ⟨0x000, 80⟩) (station 1 .listen)
    (after (.busActivity 16 ⟨0x2AA, 0⟩) s).bus.run.map Run.count = some 2 ∧
      (after (.busActivity 40 ⟨0x2AA, 0⟩) s).bus.run.map Run.count = some 1 := by decide

set_option maxRecDepth 20000 in
/-- R35: what RXD returns in the own slot is captured after an EARLY start too. -/
theorem test_capture_after_early_start :
    let s := after (.busActivity 0 ⟨0x2AA, 0⟩) (after .slotEnd (member 1 0 6))
    s.bus.start = .early ∧ s.bus.loopback = [0x55] := by decide

/-- R30: a run that begins after the slot's frame makes the slot BAD(FRAMING), and so does the frame still
in progress at the slot's end. -/
theorem test_further_run :
    let s := heard (.intact (.tally (tally 2 [] none)) true) (member 1 2 7)
    (after (.busActivity 0 ⟨0x2AA, 0⟩) s).slotVerdict = .bad .framing ∧
      (running ⟨true, 60, false, 9600⟩ 100 s).slotVerdict = .bad .framing := by decide

set_option maxRecDepth 20000 in
/-- R35: a run carried over into the own slot fails the loopback, though the own frame comes back whole. -/
theorem test_carried_over_run_fails_loopback :
    let s := sentAndHeard (.join (joinOf 1 none)) (inSlot 1 (station 1 .joining))
    let t := { s with bus := { s.bus with carried := true } }
    (s.judgeSlot s.slotVerdict).controller.state = .joining ∧
      (t.judgeSlot t.slotVerdict).controller.state = .listen ∧
      (after .slotEnd (running ⟨false, 60, false, 9600⟩ 100 (member 1 0 7))).bus.carried = true := by
  decide

/-- R25, R51, R53: RUN_END of a run cut short in a slot leaves BAD(FRAMING) for the slot's end, and of
one whose first byte names no kind BAD(FORMAT) by check 2, before check 3 (assumption 29). -/
theorem test_run_cut_short :
    let s := after (.busActivity 0 ⟨characterOf 0xA2, 0⟩) (inSlot 2 (member 1 2 7))
    let t := after (.busActivity 0 ⟨characterOf 0xF2, 0⟩) (inSlot 2 (member 1 2 7))
    (after (.runEnd 0) s).frameCheck.judged = some (.bad .framing) ∧
      (after (.runEnd 0) t).frameCheck.judged = some (.bad .format) := by decide

/-- R31: without a schedule a start bit begins a frame, wherever it falls, and its character is gathered. -/
theorem test_unsynchronised_run :
    let s := after (.busActivity 4000 ⟨0x2AA, 0⟩) (station 1 .listen)
    s.bus.run.map Run.isFrame = some true ∧ s.frameCheck.receive = [0x55] := by decide

set_option maxRecDepth 20000 in
/-- R31, R105: a BAD run does not synchronise a listener, and the buffer is emptied. -/
theorem test_bad_run_does_not_synchronise :
    let s := after (.runEnd 0) (after (.busActivity 0 ⟨0x2AA, 0⟩) (station 1 .listen))
    s.bus.sync = false ∧ s.bus.run = none ∧ s.frameCheck.receive = [] ∧ s.events = [] := by decide

/-! ### Lawful states -/

/-- A member with a post, a watch and a joiner in its queue. -/
def lawfulMember : State :=
  watching [⟨0, .equal, 0, some 2, true⟩, ⟨0, .change, 0, none, false⟩]
    (posting [take1Post (.sent 7 none), ⟨43, .add, 1, 5, .queued⟩]
      (transferring ⟨[3], none, none⟩ (member 1 2 7)))

/-- The last transfer frame of donor 0 for joiner 3. -/
def lastFrame : TallyFrame :=
  { tally 0 [take1] (some (section_ 3 28)) with digest := 0 }

/-- A receiving station at the end of donor 0's slot, the last transfer frame heard. -/
def lawfulReceiver : State :=
  heard (.intact (.tally lastFrame) true)
    (transferring ⟨[], none, some ⟨7, 28, 0⟩⟩ (inSlot 0 (station 3 .receiving)))

/-- A synchronised listener in slot 0, with a post in its queue. -/
def lawfulListener : State :=
  posting [take1Post .queued] (inSlot 0 (station 1 .listen))

set_option maxRecDepth 20000 in
theorem lawful_member : lawfulMember.Lawful where
  config := by
    show (four 1).InRange ∧ _ ∧ _
    unfold Configuration.InRange; decide
  event := by unfold State.EventLaw; decide
  failure := by unfold State.FailureLaw; decide
  view := by unfold State.ViewLaw; decide
  count := by unfold State.CountLaw; decide
  post := by unfold State.PostLaw; decide
  schedule := by unfold State.ScheduleLaw; decide
  quiet := by unfold State.QuietLaw; decide
  timer := by unfold State.TimerLaw; decide
  leave := by unfold State.LeaveLaw; decide
  send := by unfold State.SendLaw; decide
  join := by unfold State.JoinLaw; decide
  serving := trivial
  receiving := by show lawfulMember.controller.state ≠ .receiving; decide
  watch := by unfold State.WatchLaw; decide
  port := by unfold State.PortLaw; decide

set_option maxRecDepth 20000 in
theorem lawful_receiver : lawfulReceiver.Lawful where
  config := by
    show (four 3).InRange ∧ _ ∧ _
    unfold Configuration.InRange; decide
  event := by unfold State.EventLaw; decide
  failure := by unfold State.FailureLaw; decide
  view := by unfold State.ViewLaw; decide
  count := by unfold State.CountLaw; decide
  post := by unfold State.PostLaw; decide
  schedule := by unfold State.ScheduleLaw; decide
  quiet := by unfold State.QuietLaw; decide
  timer := by unfold State.TimerLaw; decide
  leave := by unfold State.LeaveLaw; decide
  send := by unfold State.SendLaw; decide
  join := by unfold State.JoinLaw; decide
  serving := trivial
  receiving := by
    show lawfulReceiver.controller.state = .receiving ∧ 28 % 4 = 0 ∧ 4 ≤ 28 ∧ 28 ≤ 28
    decide
  watch := by unfold State.WatchLaw; decide
  port := by unfold State.PortLaw; decide

set_option maxRecDepth 20000 in
theorem lawful_listener : lawfulListener.Lawful where
  config := by
    show (four 1).InRange ∧ _ ∧ _
    unfold Configuration.InRange; decide
  event := by unfold State.EventLaw; decide
  failure := by unfold State.FailureLaw; decide
  view := by unfold State.ViewLaw; decide
  count := by unfold State.CountLaw; decide
  post := by unfold State.PostLaw; decide
  schedule := by unfold State.ScheduleLaw; decide
  quiet := by unfold State.QuietLaw; decide
  timer := by unfold State.TimerLaw; decide
  leave := by unfold State.LeaveLaw; decide
  send := by unfold State.SendLaw; decide
  join := by unfold State.JoinLaw; decide
  serving := trivial
  receiving := by show lawfulListener.controller.state ≠ .receiving; decide
  watch := by unfold State.WatchLaw; decide
  port := by unfold State.PortLaw; decide

/-! ### Witnesses: for each statement with hypotheses, states and operands that meet them

Where the clauses of a statement exclude each other, each clause has its own state. -/

theorem witness_StepRunsFrontCommand :
    ({ State.reset with pending := [.start, .leave] } : State).pending = .start :: [.leave] ∧
      State.reset.pending = [] := by decide

theorem witness_SelectStartCapturesSummary :
    (member 1 2 7).host.csn = true ∧ (member 1 2 7).resetn = true ∧
      (after .resetnAssert (member 1 2 7)).host.csn = true ∧
      (after .resetnAssert (member 1 2 7)).resetn = false ∧
      (selected (member 1 2 7)).host.csn = false := by decide

theorem witness_ResetTakesEffectAtSelectEnd :
    (selected (member 1 2 7)).awaitsCode ∧ (selected (member 1 2 7)).host.csn = false ∧
      (selected (member 1 2 7)).host.resetPending = false ∧
      (after .reset (selected (member 1 2 7))).host.csn = false ∧
      (after .reset (selected (member 1 2 7))).host.resetPending = true ∧
      (member 1 2 7).host.csn = true := by
  unfold State.awaitsCode; decide

theorem witness_NoRequestOutsideItsPhase :
    requestOf (.cancel [3]) ≠ none ∧ (member 1 2 7).host.phase = .idle ∧
      (after .leave (selected (member 1 2 7))).host.phase = .reply 0x04 [] ⟨.ok, []⟩ 0 := by decide

theorem witness_DiscardedAndMalformedRequests :
    (selected (member 1 2 7)).awaitsCode ∧ (selected (member 1 2 7)).host.csn = false ∧
      (selected (member 1 2 7)).host.resetPending = false ∧
      requestOf (.post [6, 0, 0, 0, 0]) = some (0x10, [6, 0, 0, 0, 0]) ∧
      requestParameters 0x10 = some 6 ∧ [(6 : Byte), 0, 0, 0, 0].length < 6 ∧
      requestOf (.cancel []) = some (0x11, []) ∧ requestParameters 0x11 = some 1 ∧
      requestParameters 0x06 = none ∧ requestParameters 0xFF = none := by
  unfold State.awaitsCode; decide

/-- A reply to QUERY POST of a SENT post. -/
def replying : State :=
  after (.queryPost [42]) (selected (posting [take1Post (.sent 7 none)] (member 1 2 7)))

theorem witness_ReplyShiftsOut :
    replying.host.csn = false ∧ replying.host.phase = .reply 0x12 [42] ⟨.ok, [1, 0, 7]⟩ 0 ∧
      1 ≤ 1 ∧ 1 ≤ [(42 : Byte)].length := by decide

theorem witness_StatusReportsAndClears :
    (selected (member 1 2 7)).awaitsCode ∧ (selected (member 1 2 7)).host.csn = false ∧
      (selected (member 1 2 7)).host.resetPending = false := by
  unfold State.awaitsCode; decide

theorem witness_ConfigureIsCheckedAndInstalled :
    (selected (member 1 2 7)).awaitsCode ∧
      (member 1 2 7).controller.state ≠ .unconfigured ∧ (member 1 2 7).controller.state ≠ .ready ∧
      (selected State.reset).awaitsCode ∧ State.reset.controller.state = .unconfigured ∧
      (station 1 .ready).controller.state = .ready ∧
      (2 ≤ (2 : Byte).toNat ∧ (1 : Byte).toNat < (2 : Byte).toNat ∧ (3 : Byte).toNat ≤ 3 ∧
        16 ≤ (16 : Byte).toNat ∧ (64 : Byte).toNat ≤ 64 ∧ (16 : Byte).toNat ≤ 16) ∧
      ¬ (2 ≤ (1 : Byte).toNat) ∧ ¬ ((17 : Byte).toNat ≤ 16) ∧
      ¬ ((2 : Byte).toNat < (2 : Byte).toNat) ∧ ¬ ((4 : Byte).toNat ≤ 3) ∧
      ¬ (16 ≤ (15 : Byte).toNat) ∧ ¬ ((65 : Byte).toNat ≤ 64) := by
  unfold State.awaitsCode; decide

theorem witness_StartEntersListen :
    (selected (station 1 .ready)).awaitsCode ∧
      (selected (station 1 .ready)).controller.state = .ready ∧
      (selected (station 1 .halted)).controller.state = .halted ∧
      (selected (station 1 .standby)).controller.state = .standby ∧
      ¬ ((selected (member 1 2 7)).controller.state = .ready ∨
        (selected (member 1 2 7)).controller.state = .standby ∨
        (selected (member 1 2 7)).controller.state = .halted) := by
  unfold State.awaitsCode; decide

/-- A JOINING station whose own JOIN is on the line. -/
def askingOnTheLine : State :=
  let s := sentAndHeard (.join (joinOf 1 none)) (inSlot 1 (station 1 .joining))
  { s with bus := { s.bus with tx := .sending } }

theorem witness_LeaveByState :
    (selected (member 1 2 7)).awaitsCode ∧ (member 1 2 7).controller.state = .member ∧
      (station 1 .listen).controller.state = .listen ∧
      (inSlot 2 (station 1 .joining)).controller.state = .joining ∧
      (inSlot 2 (station 1 .joining)).bus.tx ≠ .sending ∧
      (selected askingOnTheLine).awaitsCode ∧
      (selected askingOnTheLine).controller.state = .joining ∧
      (selected askingOnTheLine).bus.tx = .sending ∧
      (station 1 .standby).controller.state.active = false := by
  unfold State.awaitsCode; decide

/-- Sixteen QUEUED posts. -/
def fullQueue : List Post := (List.range 16).map fun n => ⟨byteOf n, .add, 0, 1, .queued⟩

theorem witness_PostIsCheckedAndQueued :
    (selected State.reset).awaitsCode ∧ State.reset.controller.state = .unconfigured ∧
      (selected (member 1 2 7)).awaitsCode ∧ (member 1 2 7).controller.state ≠ .unconfigured ∧
      ¬ (1 ≤ (0 : Byte).toNat) ∧ ¬ ((10 : Byte).toNat ≤ 9) ∧ ¬ ((32 : Byte).toNat ≤ 31) ∧
      1 ≤ (1 : Byte).toNat ∧ (9 : Byte).toNat ≤ 9 ∧ (31 : Byte).toNat ≤ 31 ∧
      16 ≤ (posting fullQueue (member 1 2 7)).posts.posts.length ∧
      kindCode .clearFlags = (9 : Byte).toNat ∧ (31 : Fin 32).val = (31 : Byte).toNat ∧
      (posting (fullQueue.take 15) (member 1 2 7)).posts.posts.length < 16 := by
  unfold State.awaitsCode; decide

theorem witness_TagIsFirstFree :
    (fullQueue.take 15).length ≤ 15 ∧ 14 < (freeTag (fullQueue.take 15) 16 0 - 0).toNat := by
  decide

theorem witness_CancelAndQueryByTag :
    (selected lawfulMember).awaitsCode ∧
      ((selected lawfulMember).posts.posts.map Post.tag).Nodup ∧
      (∀ q ∈ (selected lawfulMember).posts.posts, q.tag ≠ 200) ∧
      (⟨43, .add, 1, 5, .queued⟩ : Post) ∈ (selected lawfulMember).posts.posts ∧
      take1Post (.sent 7 none) ∈ (selected lawfulMember).posts.posts := by
  unfold State.awaitsCode; decide

theorem witness_ReadCellReportsRecord :
    (selected (member 1 2 7)).awaitsCode ∧ 31 < (32 : Byte).toNat ∧
      (31 : Fin 32).val = (31 : Byte).toNat ∧ (31 : Byte).toNat ≤ 31 ∧
      (selected State.reset).awaitsCode ∧
      (selected State.reset).controller.state = .unconfigured ∧
      (selected State.reset).ConfigLaw :=
  ⟨rfl, by decide, rfl, by decide, rfl, rfl, rfl, rfl, rfl⟩

/-- A table with a watch in every entry. -/
def fullTable : State :=
  watching ((List.range 16).map fun n => ⟨0, .above, BitVec.ofNat 40 n, none, false⟩) (member 1 2 7)

set_option maxRecDepth 20000 in
theorem watchLaw_fullTable : (selected fullTable).WatchLaw := by unfold State.WatchLaw; decide

set_option maxRecDepth 20000 in
theorem watchLaw_reset : (selected State.reset).WatchLaw := by unfold State.WatchLaw; decide

theorem witness_SetWatchRefusals :
    (selected State.reset).awaitsCode ∧ (selected State.reset).WatchLaw ∧
      State.reset.controller.state = .unconfigured ∧
      (selected fullTable).awaitsCode ∧ (selected fullTable).WatchLaw ∧
      fullTable.controller.state ≠ .unconfigured ∧
      (¬ ((32 : Byte).toNat ≤ 31) ∧ ¬ (1 ≤ (0 : Byte).toNat) ∧ ¬ ((6 : Byte).toNat ≤ 5) ∧
        ¬ ((4 : Byte).toNat ≤ 3 ∨ (4 : Byte).toNat = 255)) ∧
      (31 : Byte).toNat ≤ 31 ∧ (4 : Byte).toNat = 4 ∧ (3 : Byte).toNat ≤ 3 ∧
      (selected fullTable).watch.entries[(15 : Fin 16)] =
        some ⟨0, .above, 15, none, false⟩ ∧ conditionCode .above = (1 : Byte).toNat ∧
      (15 : CellValue) = (0 : Byte) ++ (0 : Byte) ++ (0 : Byte) ++ (0 : Byte) ++ (15 : Byte) ∧
      (∀ j : Fin 16, ∀ v, (selected fullTable).watch.entries[j] = some v →
        conditionCode v.condition ≠ 5) ∧
      (∀ j : Fin 16, (selected fullTable).watch.entries[j] ≠ none) := by
  refine ⟨rfl, watchLaw_reset, rfl, rfl, watchLaw_fullTable, by decide, by decide, by decide,
    by decide, by decide, rfl, rfl, by decide, ?_, by decide⟩
  have h : ∀ j : Fin 16, (selected fullTable).watch.entries[j] =
      some ⟨0, .above, BitVec.ofNat 40 j.val, none, false⟩ := by decide
  intro j v hv
  rw [h j] at hv
  cases hv
  show conditionCode .above ≠ 5
  decide

theorem witness_SetWatchFillsLowestEntry :
    (selected lawfulMember).awaitsCode ∧ (selected lawfulMember).controller.state ≠ .unconfigured ∧
      (31 : Fin 32).val = (31 : Byte).toNat ∧ conditionCode .below = (2 : Byte).toNat ∧
      lineCode (some 3) = (3 : Byte).toNat ∧ lineCode none = (255 : Byte).toNat ∧
      (∀ j : Fin 16, ((selected lawfulMember).watch.entries[j]).all fun v => v.cell ≠ 31) ∧
      (∀ j : Fin 16, j < 2 → (selected lawfulMember).watch.entries[j] ≠ none) ∧
      (selected lawfulMember).watch.entries[(2 : Fin 16)] = none ∧
      (selected lawfulMember).cellMode 31 = .unsigned ∧
      true = decide (((selected lawfulMember).cells[(31 : Fin 32)].value.toNat : Int) <
        ((0 : Byte) ++ (0 : Byte) ++ (0 : Byte) ++ (0 : Byte) ++ (1 : Byte)).toNat) := by
  unfold State.awaitsCode; decide

theorem witness_ClearAndReadWatch :
    (selected lawfulMember).awaitsCode ∧ (15 : Fin 16).val = (15 : Byte).toNat ∧
      (selected lawfulMember).watch.entries[(15 : Fin 16)] = none ∧
      (0 : Fin 16).val = (0 : Byte).toNat ∧
      (selected lawfulMember).watch.entries[(0 : Fin 16)] =
        some ⟨0, .equal, 0, some 2, true⟩ ∧
      16 ≤ (16 : Byte).toNat ∧ 16 ≤ (255 : Byte).toNat ∧ (254 : Byte).toNat ≤ 254 := by
  unfold State.awaitsCode; decide

/-- A member with two events in its queue. -/
def withEvents : State := selected (eventful 2 .peerLeft (member 1 2 7))

theorem witness_TakeEventThenRemoval :
    withEvents.awaitsCode ∧
      withEvents.events =
        withEvents.blankEvent .peerJoined :: [withEvents.blankEvent .peerLeft] ∧
      withEvents.host.csn = false ∧ withEvents.host.resetPending = false ∧
      (selected (member 1 2 7)).awaitsCode ∧ (selected (member 1 2 7)).events = [] := by
  unfold State.awaitsCode; decide

theorem witness_ArrivalIsStoredOrCounted :
    (eventful 30 .peerLeft State.reset).events.length ≤ 30 ∧
      (eventful 31 .peerLeft State.reset).events.length = 31 ∧
      (eventful 31 .peerLeft State.reset).events.getLast? =
        some (State.reset.blankEvent .peerLeft) ∧
      (State.reset.blankEvent .peerLeft).kind ≠ .eventsLost ∧
      (eventful 31 .eventsLost State.reset).events.length = 31 ∧
      (eventful 32 .eventsLost State.reset).events.length = 32 ∧
      (eventful 32 .eventsLost State.reset).events.getLast? =
        some (State.reset.blankEvent .eventsLost) ∧
      (∀ r ∈ (eventful 32 .eventsLost State.reset).events, r.kind = .eventsLost →
        r.value.toNat < 2 ^ 40 - 1) := by
  decide

theorem witness_SumsFollowTheRangeRule :
    (.sub = ContributionKind.sub ∧
      (-2 : Int) = patternValue .unsigned (0 : CellValue) - patternValue .unsigned (2 : Operand)) ∧
    (4000 : Int) = patternValue .unsigned (1000 : CellValue) +
      patternValue .unsigned ((0x00FA000C : Operand).extractLsb' 16 16) *
        patternValue .unsigned ((0x00FA000C : Operand).extractLsb' 0 16) := by decide

theorem witness_LoadTakeAndClears :
    patternValue .unsigned (0 : CellValue) < patternValue .unsigned (1 : Operand) ∧
      patternValue .unsigned (6 : Operand) ≤ patternValue .unsigned (6 : CellValue) ∧
      patternValue .unsigned (6 : CellValue) - patternValue .unsigned (6 : Operand) ≤
        highest .unsigned ∧
      patternValue .signed (0xFFFFFF9C : Operand) ≤ patternValue .signed (549755813880 : CellValue) ∧
      highest .signed <
        patternValue .signed (549755813880 : CellValue) -
          patternValue .signed (0xFFFFFF9C : Operand) := by decide

theorem witness_DivideKeepsRemainder :
    (0 : Operand) = 0 ∧ (7 : Operand) ≠ 0 ∧
      ¬ ((100 : CellValue).toInt = -2 ^ 39 ∧ (7 : Operand).toInt = -1) ∧
      (0x8000000000 : CellValue).toInt = -2 ^ 39 ∧ (0xFFFFFFFF : Operand).toInt = -1 := by decide

theorem wellFormed_donorFrame :
    (Frame.tally (tally 2 [take1] (some (section_ 3 28)))).WellFormed := by
  show 2 < 16 ∧ 1 ≤ 4 ∧ (false = true → _ ∧ _) ∧ (3 < 16 ∧ 3 ≠ 2 ∧ 28 % 4 = 0 ∧ 28 ≤ 28)
  exact ⟨by decide, by decide, nofun, by decide⟩

theorem wellFormed_join : (Frame.join (joinOf 2 (some 12))).WellFormed :=
  show 2 < 16 ∧ (12 % 4 = 0 ∧ 12 ≤ 28) by decide

theorem wellFormed_plain (n : Nat) (h : n < 16) : (Frame.tally (tally n [] none)).WellFormed :=
  ⟨h, Nat.zero_le 4, nofun, trivial⟩

theorem witness_BuiltFrameReadsBack :
    (Frame.tally (tally 2 [take1] (some (section_ 3 28)))).WellFormed ∧
      (Frame.join (joinOf 2 (some 12))).WellFormed :=
  ⟨wellFormed_donorFrame, wellFormed_join⟩

/-- The bytes of station 2's JOIN with an expect value, and a JOIN's bytes with a wrong CRC. -/
def joinBytes (expect : Option Nat) : List Byte := (Frame.join (joinOf 2 expect)).bytes
def spoilt : List Byte := [0x62, 0, 7, 0, 255, 0, 0]

/-- TALLY bytes that declare 107. -/
def declares107 : List Byte := [0xA2, 0, 0, 0, 0, 0, 0, 0, 0x46]

set_option maxRecDepth 20000 in
/-- A whole frame; then for each check of R51 a run that fails it, and one that passes all. -/
theorem witness_RunOfFrameIsJudged :
    ((Frame.tally (tally 2 [take1] (some (section_ 3 28)))).WellFormed ∧
      3 ≠ (Frame.tally (tally 2 [take1] (some (section_ 3 28)))).sender ∧ 1 ≤ 71 ∧
      71 < (Frame.tally (tally 2 [take1] (some (section_ 3 28)))).length ∧ [(0 : Byte)] ≠ []) ∧
    (0x3#4 = (([0x32] : List Byte).getD 0 0).extractLsb' 4 4 ∧ 0x3#4 ≠ 0xA#4 ∧ 0x3#4 ≠ 0x6#4) ∧
    (0xA#4 = (declares107.getD 0 0).extractLsb' 4 4 ∧
      2 = ((declares107.getD 0 0).extractLsb' 0 4).toNat ∧ declaredLength declares107 8 = none ∧
      declaredLength declares107 107 = some 107 ∧ 93 < 107) ∧
    (0x6#4 = (spoilt.getD 0 0).extractLsb' 4 4 ∧
      2 = ((spoilt.getD 0 0).extractLsb' 0 4).toNat ∧ declaredLength spoilt 6 = some 7 ∧ 6 < 7 ∧
      declaredLength spoilt 8 = some 7 ∧ 7 < 8 ∧ declaredLength spoilt 7 = some 7 ∧ 7 ≤ 93 ∧
      crcMatches spoilt = false) ∧
    (0x6#4 = ((joinBytes none).getD 0 0).extractLsb' 4 4 ∧
      2 = (((joinBytes none).getD 0 0).extractLsb' 0 4).toNat ∧
      declaredLength (joinBytes none) 7 = some 7 ∧ crcMatches (joinBytes none) = true ∧
      3 ≠ 2 ∧ (joinBytes none).getD 3 0 = configTagOf (four 1) ∧ 2 ≤ 2 ∧ 2 < 4 ∧
      readFrame (joinBytes none) = some (.join (joinOf 2 none)) ∧
      crcMatches (joinBytes (some 13)) = true ∧ readFrame (joinBytes (some 13)) = none ∧
      (joinBytes none).length = min 7 93 ∧
      judgeRun (some 2) 4 (configTagOf (four 1)) 7 false (joinBytes none) =
        .intact (.join (joinOf 2 none)) true) :=
  ⟨⟨wellFormed_donorFrame, by decide, by decide, by decide, by decide⟩, by decide, by decide,
    by decide, by decide⟩

set_option maxRecDepth 20000 in
theorem witness_AlteredByteFailsCrc :
    2 ≤ (Frame.join (joinOf 2 none)).bytes.length ∧ 6 < (Frame.join (joinOf 2 none)).bytes.length ∧
      (Frame.join (joinOf 2 none)).bytes.getD 0 0 ≠ 0 ∧
      crcMatches (Frame.join (joinOf 2 none)).bytes = true := by decide

set_option maxRecDepth 20000 in
/-- The last of the offsets in the window, and the first after it, by a wait of 168 and of 169; a
listener in a slot; a station with its own frame supplied; a slot in which a frame has been heard; a run
carried over; a frame in progress, 2 bit times after its last stop bit and later. -/
theorem witness_FirstFallGivesTimingVerdict :
    let heardOne := heard (.intact (.tally (tally 2 [] none)) true) (member 1 2 7)
    let late := { member 1 2 7 with bus := { (member 1 2 7).bus with start := .late } }
    let ahead := running ⟨false, 60, false, 9600⟩ 100 (member 1 2 7)
    let going := running ⟨true, 60, false, 9600⟩ 100 heardOne
    (member 1 2 7).controller.state.active = true ∧ (member 1 2 7).controller.state ≠ .listen ∧
      168 = (member 1 2 7).rxd.untilHigh + 168 ∧
      lawfulListener.controller.state = .listen ∧ lawfulListener.bus.sync = true ∧
      lawfulListener.bus.start = .silent ∧ lawfulListener.bus.run = none ∧
      (0x1FE : BitVec 10).getLsbD 9 = false ∧
      (after .slotEnd (member 1 0 6)).bus.tx ≠ .idle ∧
      (after .slotEnd (member 1 0 6)).bus.loopback.length < 93 ∧
      (after .slotEnd (member 1 0 6)).bus.start = .silent ∧
      (after .slotEnd (member 1 0 6)).bus.slotTimer + (0 : Nat) < 16 * 16 ∧
      (member 1 2 7).bus.sync = true ∧ (member 1 2 7).bus.start = .silent ∧
      (member 1 2 7).bus.run = none ∧ (member 1 2 7).bus.tx = .idle ∧
      (0x3FF : BitVec 10).getLsbD 0 = true ∧ (0x3FE : BitVec 10).getLsbD 0 = false ∧
      16 * 16 ≤ (member 1 2 7).bus.slotTimer + (168 : Nat) ∧
      (member 1 2 7).bus.slotTimer + (168 : Nat) ≤ 16 * 48 ∧
      16 * 48 < (member 1 2 7).bus.slotTimer + (169 : Nat) ∧
      ahead.bus.start = .silent ∧ ahead.bus.run = some ⟨false, 60, false, 9600⟩ ∧
      93 = ahead.rxd.idleAt + 33 - ahead.rxd.age ∧ 32 < 33 ∧
      heardOne.bus.start = .inWindow 520 ∧ heardOne.bus.run = none ∧
      heardOne.bus.further = false ∧
      heardOne.frameCheck.judged = some (.intact (.tally (tally 2 [] none)) true) ∧
      late.bus.start = .late ∧ late.bus.run = none ∧
      (after (.busActivity 0 ⟨0x2AA, 0⟩) heardOne).bus.start = .inWindow 520 ∧
      (after (.busActivity 0 ⟨0x2AA, 0⟩) heardOne).bus.further = true ∧
      going.bus.start = .inWindow 520 ∧ going.bus.run = some ⟨true, 60, false, 9600⟩ ∧
      92 = going.rxd.idleAt + 32 - going.rxd.age ∧ going.rxd.age ≤ going.rxd.idleAt + 32 ∧
      going.bus.tx ≠ .sending ∧ going.rxdAtSlotEnd.endsRun = false ∧
      going.bus.slotTimer ≤ (going.slotSixteenths : Int) := by
  decide

set_option maxRecDepth 20000 in
/-- A sound frame in its window; a frame's run in progress, which lasts past the slot's end; the same
over by then; a run followed only for its end. -/
theorem witness_FrameOnLineIsHeardIntact :
    let going := running ⟨true, 60, false, 9600⟩ 100 (member 1 2 7)
    let finished := running ⟨true, 60, true, 9600⟩ 190 (member 1 2 7)
    (going.controller.state.active = true ∧ going.bus.sync = true ∧
      93 = going.rxd.idleAt + max 0 33 - going.rxd.age ∧
      going.bus.run = some ⟨true, 60, false, 9600⟩ ∧
      finished.bus.run = some ⟨true, 60, true, 9600⟩ ∧ finished.bus.tx ≠ .sending ∧
      finished.rxdAtSlotEnd.endsRun = true ∧
      (running ⟨false, 60, false, 9600⟩ 100 (member 1 2 7)).bus.run =
        some ⟨false, 60, false, 9600⟩) ∧
    (Frame.tally (tally 2 [] none)).WellFormed ∧
      (Frame.tally (tally 2 [] none)).bytes =
        0xA2 :: (Frame.tally (tally 2 [] none)).bytes.drop 1 ∧
      (member 1 2 7).controller.state.active = true ∧ (member 1 2 7).bus.sync = true ∧
      (member 1 2 7).bus.slot = (Frame.tally (tally 2 [] none)).sender ∧
      (member 1 2 7).bus.start = .silent ∧ (member 1 2 7).bus.run = none ∧
      16 * 16 ≤ (member 1 2 7).bus.slotTimer + ((member 1 2 7).rxd.untilHigh + 168 : Nat) ∧
      (member 1 2 7).bus.slotTimer + ((member 1 2 7).rxd.untilHigh + 168 : Nat) ≤ 16 * 48 ∧
      (member 1 2 7).bus.tx = .idle ∧
      (after .slotEnd (member 1 0 6)).bus.tx ≠ .idle ∧
      (after .slotEnd (member 1 0 6)).bus.slot = (Frame.tally (tally 1 [] none)).sender ∧
      (Frame.tally (tally 1 [] none)).WellFormed :=
  ⟨by decide, wellFormed_plain 2 (by decide), by decide, rfl, rfl, rfl, rfl, rfl, by decide,
    by decide, rfl, by decide, by decide, wellFormed_plain 1 (by decide)⟩

/-- A member's own frame on the line, in its third character's data bit 0. -/
def sendingState : State :=
  let s := sentAndHeard (.tally (tally 1 [] none)) (member 1 1 7)
  { s with bus := { s.bus with tx := .sending, slotTimer := 16 * 53 } }

set_option maxRecDepth 20000 in
theorem witness_OwnTransmissionOnTheLine :
    sendingState.bus.tx = .sending ∧ sendingState.frameCheck.transmit[2]? = some 7 ∧ 1 < 10 ∧
      0 < 16 ∧ sendingState.bus.slotTimer = ((16 * (32 + 10 * 2 + 1) + 0 : Nat) : Int) ∧
      sendingState.bus.sync = true ∧ sendingState.bus.run = none ∧
      sendingState.bus.slotTimer ≤ 16 * (32 + 10 * sendingState.frameCheck.transmit.length) ∧
      sendingState.controller.state ≠ .listen ∧ sendingState.controller.leaveAtTxEnd = false ∧
      (after .slotEnd (member 1 0 6)).bus.tx = .built ∧
      (after .slotEnd (member 1 0 6)).bus.sync = true ∧
      (after .slotEnd (member 1 0 6)).bus.run = none ∧
      (after .slotEnd (member 1 0 6)).bus.slotTimer ≤ 16 * 32 ∧
      (after .leave (selected askingOnTheLine)).bus.tx = .sending ∧
      (after .leave (selected askingOnTheLine)).controller.leaveAtTxEnd = true ∧
      (member 1 2 7).bus.tx ≠ .built ∧ (member 1 2 7).bus.tx ≠ .sending := by decide

/-- A configured station that has not been started. -/
def lawfulReady : State := station 1 .ready

set_option maxRecDepth 20000 in
theorem lawful_ready : lawfulReady.Lawful where
  config := by
    show (four 1).InRange ∧ _ ∧ _
    unfold Configuration.InRange; decide
  event := by unfold State.EventLaw; decide
  failure := by unfold State.FailureLaw; decide
  view := by unfold State.ViewLaw; decide
  count := by unfold State.CountLaw; decide
  post := by unfold State.PostLaw; decide
  schedule := by unfold State.ScheduleLaw; decide
  quiet := by unfold State.QuietLaw; decide
  timer := by unfold State.TimerLaw; decide
  leave := by unfold State.LeaveLaw; decide
  send := by unfold State.SendLaw; decide
  join := by unfold State.JoinLaw; decide
  serving := trivial
  receiving := by show lawfulReady.controller.state ≠ .receiving; decide
  watch := by unfold State.WatchLaw; decide
  port := by unfold State.PortLaw; decide

theorem witness_PassiveStationIgnoresTheBus :
    lawfulReady.Lawful ∧ lawfulReady.controller.state.active = false ∧
      onBusSide (.busActivity 0 ⟨0, 0⟩) = true ∧ lawfulReady.pending = [] :=
  ⟨lawful_ready, rfl, rfl, rfl⟩

/-- The run of a whole frame. -/
def wholeRun (f : Frame) : Run := ⟨true, f.length, false, 1700⟩

/-- An unsynchronised listener that has received a whole frame. -/
def listenerWith (f : Frame) : State :=
  let s := station 1 .listen
  { s with
    bus := { s.bus with run := some (wholeRun f) }
    frameCheck := { s.frameCheck with receive := f.bytes } }

/-- An unsynchronised listener with a run in progress, 100 sixteenths after its last fall. -/
def gathers (lowStop : Bool) (bytes : List Byte) : State :=
  let s := station 1 .listen
  { s with
    bus := { s.bus with run := some ⟨true, bytes.length, lowStop, 100⟩ }
    frameCheck := { s.frameCheck with receive := bytes }
    rxd := ⟨⟨0x2AA, 0⟩, 100⟩ }

set_option maxRecDepth 20000 in
/-- An idle listener, one in a run whose characters so far are sound, one with a low stop bit, one whose
run is BAD(FORMAT), and those with whole frames. -/
theorem witness_ListenerSynchronises :
    ((station 1 .listen).controller.state = .listen ∧ (station 1 .listen).bus.sync = false ∧
      (station 1 .listen).bus.run = none ∧ (station 1 .listen).bus.tx = .idle ∧
      5 = (station 1 .listen).rxd.untilHigh + 5 ∧ (0x3FF : BitVec 10).getLsbD 0 = true ∧
      (0x2AA : BitVec 10).getLsbD 0 = false) ∧
    ((gathers false [0xA2]).controller.state = .listen ∧ (gathers false [0xA2]).bus.sync = false ∧
      (gathers false [0xA2]).bus.run = some ⟨true, 1, false, 100⟩ ∧
      (gathers false [0xA2]).bus.tx = .idle ∧ 32 ≤ 32 ∧ 32 < 33 ∧
      (gathers false [0xA2]).rxd.age ≤ (gathers false [0xA2]).rxd.idleAt + 32 ∧
      92 = (gathers false [0xA2]).rxd.idleAt + 32 - (gathers false [0xA2]).rxd.age) ∧
    ((gathers true [0xA2]).bus.run = some ⟨true, 1, true, 100⟩ ∧
      judgeRun none (gathers false [0x32]).stationCount (gathers false [0x32]).configTag 1 false
        (gathers false [0x32]).frameCheck.receive = .bad .format) ∧
    ((Frame.tally (tally 2 [] none)).bytes =
        0xA2 :: (Frame.tally (tally 2 [] none)).bytes.drop 1) ∧
    (Frame.tally (tally 2 [] none)).WellFormed ∧
      (listenerWith (.tally (tally 2 [] none))).controller.state = .listen ∧
      (listenerWith (.tally (tally 2 [] none))).bus.sync = false ∧
      (listenerWith (.tally (tally 2 [] none))).bus.run =
        some (wholeRun (.tally (tally 2 [] none))) ∧
      (listenerWith (.tally (tally 2 [] none))).frameCheck.receive =
        (Frame.tally (tally 2 [] none)).bytes ∧
      (Frame.tally (tally 2 [] none)).tag =
        (listenerWith (.tally (tally 2 [] none))).configTag ∧
      (Frame.tally (tally 2 [] none)).sender <
        (listenerWith (.tally (tally 2 [] none))).stationCount ∧
      (Frame.tally (tally 4 [] none)).WellFormed ∧
      (listenerWith (.tally (tally 4 [] none))).stationCount ≤
        (Frame.tally (tally 4 [] none)).sender ∧
      (Frame.join ⟨2, 7, configTagOf (four 1) + 1, none⟩).WellFormed ∧
      (Frame.join ⟨2, 7, configTagOf (four 1) + 1, none⟩).tag ≠
        (listenerWith (.join ⟨2, 7, configTagOf (four 1) + 1, none⟩)).configTag := by
  refine ⟨by decide, by decide, by decide, by decide, wellFormed_plain 2 (by decide), rfl, rfl, rfl,
    rfl, rfl, by decide, wellFormed_plain 4 (by decide), by decide, ⟨by decide, trivial⟩, ?_⟩
  show configTagOf (four 1) + 1 ≠ configTagOf (four 1)
  generalize configTagOf (four 1) = x
  bv_omega

/-- A member at the end of member 2's slot, which carried a verdict. -/
def memberHears (v : Verdict) : State := heard v (member 1 2 7)

theorem memberHears_ends : (memberHears (.intact (.tally (tally 2 [take1] none)) true)).SlotEndsWith
    (.intact (.tally (tally 2 [take1] none)) true) :=
  ⟨rfl, by decide, .inl rfl, by decide, rfl⟩

theorem witness_AgreeingFrameIsAccepted :
    let s := memberHears (.intact (.tally (tally 2 [take1] none)) true)
    let u := running ⟨false, 60, false, 9600⟩ 100
      (heard (.intact (.tally (tally 0 [take1] none)) true) (member 1 0 7))
    s.controller.state = .member ∧ s.SlotEndsWith (.intact (.tally (tally 2 [take1] none)) true) ∧
      s.bus.start = .inWindow 520 ∧ s.bus.slot ≠ s.stationNumber ∧
      stationIn s.agreement.view s.bus.slot = true ∧
      u.SlotEndsWith (.intact (.tally (tally 0 [take1] none)) true) ∧
      stationIn u.agreement.view u.bus.slot = true ∧ u.nextSlot = u.stationNumber ∧
      (tally 2 [take1] none).round = s.bus.round ∧
      (tally 2 [take1] none).view = s.agreement.view ∧
      (tally 2 [take1] none).digest = s.agreement.digest ∧
      (tally 2 [take1] none).farewell = false ∧
      (farewell 2).farewell = true ∧ (farewell 2).contributions = [] ∧
      (farewell 2).transfer = none ∧ (tally 2 [take1] none).transfer = none ∧
      (∀ n, (memberHears (.intact (.tally (tally 2 [take1] (some (section_ n 28)))) true)).SlotEndsWith
        (.intact (.tally (tally 2 [take1] (some (section_ n 28)))) true)) ∧
      (section_ 3 28).first = 28 ∧ stationIn s.agreement.view 3 = false ∧
      stationIn s.agreement.view 0 = true :=
  ⟨rfl, memberHears_ends, rfl, by decide, by decide,
    ⟨rfl, by decide, .inr (by decide), by decide, rfl⟩, by decide, rfl, rfl, rfl, rfl, rfl, rfl, rfl,
    rfl, rfl, fun _ => ⟨rfl, ok, .inl rfl, ok, rfl⟩, rfl, by decide, by decide⟩

/-- The sender's own station at the end of the same slot, its frame heard back. -/
def senderHears : State := sentAndHeard (.tally (tally 2 [take1] none)) (member 2 2 7)

set_option maxRecDepth 20000 in
theorem senderHears_reads :
    readFrame senderHears.frameCheck.transmit = some (.tally (tally 2 [take1] none)) := by decide

theorem witness_ReplicasStayEqual :
    let o := memberHears (.intact (.tally (tally 2 [take1] none)) true)
    o.controller.state = .member ∧ o.SlotEndsWith (.intact (.tally (tally 2 [take1] none)) true) ∧
      o.bus.slot ≠ o.stationNumber ∧ stationIn o.agreement.view o.bus.slot = true ∧
      senderHears.controller.state = .member ∧
      senderHears.SlotEndsWith (.intact (.tally (tally 2 [take1] none)) true) ∧
      senderHears.bus.slot = senderHears.stationNumber ∧ senderHears.frameCheck.transmit ≠ [] ∧
      senderHears.bus.loopback = senderHears.frameCheck.transmit ∧
      senderHears.bus.carried = false ∧
      readFrame senderHears.frameCheck.transmit = some (.tally (tally 2 [take1] none)) ∧
      o.cells = senderHears.cells ∧ o.agreement.digest = senderHears.agreement.digest ∧
      (∀ i : Fin 32, o.cellMode i = senderHears.cellMode i ∧
        o.cellPolicy i = senderHears.cellPolicy i) :=
  ⟨rfl, memberHears_ends, by decide, by decide, rfl, ⟨rfl, by decide, .inl rfl, by decide, rfl⟩, rfl,
    nofun, rfl, rfl, senderHears_reads, rfl, rfl, fun _ => ⟨rfl, rfl⟩⟩

theorem witness_MemberSlotNotAccepted :
    (member 1 2 7).controller.state = .member ∧ (member 1 2 7).SlotEndsWith .silent ∧
      (member 1 2 7).bus.slot ≠ (member 1 2 7).stationNumber ∧
      stationIn (member 1 2 7).agreement.view (member 1 2 7).bus.slot = true ∧
      (memberHears (.bad .crc)).SlotEndsWith (.bad .crc) ∧
      (memberHears (.intact (.join (joinOf 2 none)) false)).SlotEndsWith
        (.intact (.join (joinOf 2 none)) false) ∧
      (memberHears (.intact (.join (joinOf 2 none)) true)).SlotEndsWith
        (.intact (.join (joinOf 2 none)) true) ∧
      (member 1 2 7).bus.slot ∉ (member 1 2 7).transfer.joinQueue ∧
      (memberHears (.intact (.tally lastFrame) true)).SlotEndsWith
        (.intact (.tally lastFrame) true) ∧
      ¬ (lastFrame.digest = (memberHears (.intact (.tally lastFrame) true)).agreement.digest) :=
  ⟨rfl, ⟨rfl, by decide, .inl rfl, by decide, rfl⟩, by decide, by decide,
    ⟨rfl, by decide, .inl rfl, by decide, rfl⟩, ⟨rfl, by decide, .inl rfl, by decide, rfl⟩,
    ⟨rfl, by decide, .inl rfl, by decide, rfl⟩, by decide, ⟨rfl, by decide, .inl rfl, by decide, rfl⟩,
    by decide⟩

/-- Member 1 at the end of the slot of station 3, outside its view. -/
def outsiderHeard (v : Verdict) : State :=
  transferring ⟨[3], some ⟨3, 8, .none⟩, none⟩ (heard v (member 1 3 7))

theorem witness_NonMemberSlot :
    (∀ v : Verdict, (outsiderHeard v).controller.state = .member ∧
      (outsiderHeard v).bus.slot ≠ (outsiderHeard v).stationNumber ∧
      stationIn (outsiderHeard v).agreement.view (outsiderHeard v).bus.slot = false ∧
      (outsiderHeard v).SlotEndsWith v ∧
      (outsiderHeard v).transfer.serving = some ⟨3, 8, .none⟩ ∧ (outsiderHeard v).bus.slot = 3) ∧
    (outsiderHeard .silent).bus.start ≠ .silent ∧ (member 1 3 7).SlotEndsWith .silent ∧
    (member 1 3 7).transfer.serving = none ∧
    (joinOf 3 (some 8)).expect = some 8 ∧ (joinOf 3 none).expect = none ∧
    (∀ y, Verdict.bad .crc ≠ .intact (.tally y) true) ∧
    (∀ k, Verdict.bad .crc ≠ .intact (.join k) true) ∧ (∀ g, Verdict.bad .crc ≠ .intact g false) :=
  ⟨fun _ => ⟨rfl, ok, (by decide : stationIn 7 3 = false), ⟨rfl, ok, .inl rfl, ok, rfl⟩, rfl, rfl⟩,
    by decide, ⟨rfl, by decide, .inl rfl, by decide, rfl⟩, rfl, rfl, rfl, nofun, nofun, nofun⟩

/-- Member 1 in a slot, station 0 outside its view, with posts and counts. -/
def evaluating (slot agree dissent : Nat) (leaving : Bool) (failures : Nat) : State :=
  let s := posting [take1Post (.sent 6 (some ⟨.granted, 2, ⟨false, false, false⟩⟩)),
    ⟨43, .add, 1, 5, .queued⟩] (member 1 slot 6)
  { s with
    agreement := { s.agreement with agree := agree, dissent := dissent }
    controller := { s.controller with pendingLeave := leaving, failures := failures } }

theorem witness_EvaluationExcludes :
    (∀ (leaving : Bool) (failures : Nat),
      (evaluating 1 1 2 leaving failures).controller.state = .member ∧
      (evaluating 1 1 2 leaving failures).bus.slot =
        (evaluating 1 1 2 leaving failures).stationNumber ∧
      (evaluating 1 1 2 leaving failures).agreement.agree <
        (evaluating 1 1 2 leaving failures).agreement.dissent ∧
      (evaluating 1 1 2 leaving failures).transfer.receiving = none ∧
      (evaluating 1 1 2 leaving failures).agreement.view ≠ 0 ∧
      (evaluating 0 1 2 leaving failures).controller.state = .member ∧
      (evaluating 0 1 2 leaving failures).SlotEndsWith .silent ∧
      (evaluating 0 1 2 leaving failures).bus.slot ≠
        (evaluating 0 1 2 leaving failures).stationNumber ∧
      (evaluating 0 1 2 leaving failures).nextSlot =
        (evaluating 0 1 2 leaving failures).stationNumber ∧
      stationIn (evaluating 0 1 2 leaving failures).agreement.view
        (evaluating 0 1 2 leaving failures).bus.slot = false) :=
  fun _ _ => ⟨rfl, rfl, ok, rfl, ok, rfl, ⟨rfl, ok, .inl rfl, ok, rfl⟩, ok, rfl,
    (by decide : stationIn 6 0 = false)⟩

/-- Donor 0 in its own slot, with station 2 at the head of its queue. -/
def donorInOwnSlot : State := transferring ⟨[2, 3], none, none⟩ (member 0 0 3)

theorem witness_EvaluationKeepsAndPacks :
    (∀ (leaving : Bool),
      (evaluating 1 1 1 leaving 3).controller.state = .member ∧
      (evaluating 1 1 1 leaving 3).bus.slot = (evaluating 1 1 1 leaving 3).stationNumber ∧
      (evaluating 1 1 1 leaving 3).agreement.dissent ≤
        (evaluating 1 1 1 leaving 3).agreement.agree ∧
      (∀ p ∈ (evaluating 1 1 1 leaving 3).posts.posts, ∀ stamp, p.status ≠ .sent stamp none) ∧
      (evaluating 1 1 1 leaving 3).controller.pendingLeave = leaving ∧
      (evaluating 0 1 1 leaving 3).SlotEndsWith .silent ∧
      (evaluating 0 1 1 leaving 3).bus.slot ≠ (evaluating 0 1 1 leaving 3).stationNumber ∧
      stationIn (evaluating 0 1 1 leaving 3).agreement.view
        (evaluating 0 1 1 leaving 3).bus.slot = false ∧
      (evaluating 0 1 1 leaving 3).nextSlot = (evaluating 0 1 1 leaving 3).stationNumber) ∧
    (donorInOwnSlot.controller.state = .member ∧
      donorInOwnSlot.bus.slot = donorInOwnSlot.stationNumber ∧
      donorInOwnSlot.agreement.dissent ≤ donorInOwnSlot.agreement.agree ∧
      donorInOwnSlot.posts.posts = [] ∧
      noneBelow donorInOwnSlot.agreement.view donorInOwnSlot.stationNumber = true ∧
      donorInOwnSlot.donorDecision.2.map TransferSection.joiner = some 2) := by
  refine ⟨fun leaving => ⟨rfl, rfl, ok, ?_, rfl, ⟨rfl, ok, .inl rfl, ok, rfl⟩, ok,
    (by decide : stationIn 6 0 = false), rfl⟩, rfl, rfl, by decide, rfl, by decide, by decide⟩
  intro p hp stamp
  have h : p = take1Post (.sent 6 (some ⟨.granted, 2, ⟨false, false, false⟩⟩)) ∨
      p = ⟨43, .add, 1, 5, .queued⟩ := by
    simpa [evaluating, posting] using hp
  rcases h with rfl | rfl <;> nofun

/-- Donor 0 with a joiner's word. -/
def serves (w : JoinerWord) : State := transferring ⟨[3], some ⟨3, 28, w⟩, none⟩ (member 0 3 7)

theorem witness_DonorDecidesByWord :
    noneBelow (member 1 2 7).agreement.view (member 1 2 7).stationNumber = false ∧
      noneBelow (member 0 3 7).agreement.view (member 0 3 7).stationNumber = true ∧
      (member 0 3 7).transfer.serving = none ∧ (member 0 3 7).transfer.joinQueue = [] ∧
      (transferring ⟨[3, 2], none, none⟩ (member 0 3 7)).transfer.joinQueue = 3 :: [2] ∧
      (serves (.join (some 28))).transfer.serving = some ⟨3, 28, .join (some 28)⟩ ∧ 28 % 4 = 0 ∧
      (serves (.join none)).transfer.serving = some ⟨3, 28, .join none⟩ ∧
      (serves (.join (some 0))).transfer.serving = some ⟨3, 28, .join (some 0)⟩ ∧
      (serves .silent).transfer.serving = some ⟨3, 28, .silent⟩ ∧
      (serves (.join (some 24))).transfer.serving = some ⟨3, 28, .join (some 24)⟩ ∧ 24 ≠ 28 ∧
      24 ≠ 0 := by decide

theorem witness_LoopbackFailureExcludes :
    let s := sentAndHeard (.tally (tally 1 [take1] none)) (member 1 1 7)
    let t := { s with bus := { s.bus with loopback := [] } }
    let u := { s with bus := { s.bus with start := .silent } }
    let w := { s with bus := { s.bus with carried := true } }
    s.controller.state = .member ∧ s.bus.slot = s.stationNumber ∧ s.frameCheck.transmit ≠ [] ∧
      t.SlotEndsWith (.intact (.tally (tally 1 [take1] none)) true) ∧
      t.bus.loopback ≠ t.frameCheck.transmit ∧
      u.SlotEndsWith .silent ∧ (∀ f m, Verdict.silent ≠ .intact f m) ∧
      w.SlotEndsWith (.intact (.tally (tally 1 [take1] none)) true) ∧ w.bus.carried = true :=
  ⟨rfl, rfl, nofun, ⟨rfl, by decide, .inl rfl, by decide, rfl⟩, nofun,
    ⟨rfl, by decide, .inl rfl, by decide, rfl⟩, nofun,
    ⟨rfl, by decide, .inl rfl, by decide, rfl⟩, rfl⟩

/-- The sender of two frames, with the post of its contribution in the queue. -/
def ownHeard (f : TallyFrame) : State :=
  posting [take1Post (.sent 7 none)] (sentAndHeard (.tally f) (member 2 2 7))

/-- A frame that admits station 3. -/
def admitting : TallyFrame := tally 2 [] (some (section_ 3 28))

set_option maxRecDepth 20000 in
theorem witness_OwnFrameIsActedOn :
    (∀ f : TallyFrame, (ownHeard f).controller.state = .member ∧
      (ownHeard f).SlotEndsWith (.intact (.tally f) true) ∧
      (ownHeard f).bus.slot = (ownHeard f).stationNumber ∧
      (ownHeard f).nextSlot ≠ (ownHeard f).stationNumber ∧
      (ownHeard f).frameCheck.transmit ≠ [] ∧
      (ownHeard f).bus.loopback = (ownHeard f).frameCheck.transmit ∧
      (ownHeard f).bus.carried = false) ∧
    readFrame (ownHeard (tally 2 [take1] none)).frameCheck.transmit =
      some (.tally (tally 2 [take1] none)) ∧
    (tally 2 [take1] none).contributions = [] ++ take1 :: [] ∧
    take1Post (.sent 7 (some ⟨.refused, 0, ⟨false, false, false⟩⟩)) ∈
      (after .slotEnd (ownHeard (tally 2 [take1] none))).posts.posts ∧
    readFrame (ownHeard (farewell 2)).frameCheck.transmit = some (.tally (farewell 2)) ∧
    (farewell 2).farewell = true ∧ (farewell 2).contributions = [] ∧
    (farewell 2).transfer = none ∧ (tally 2 [take1] none).transfer = none ∧
    readFrame (ownHeard admitting).frameCheck.transmit = some (.tally admitting) ∧
    admitting.transfer = some (section_ 3 28) ∧ admitting.farewell = false ∧
    stationIn (ownHeard admitting).agreement.view 3 = false :=
  ⟨fun _ => ⟨rfl, ⟨rfl, ok, .inl rfl, ok, rfl⟩, rfl, ok, nofun, rfl, rfl⟩, ok,
    rfl, by decide, by decide, rfl, rfl, rfl, rfl, by decide, rfl, rfl, by decide⟩

theorem witness_ExpiryFounds :
    lawfulListener.Lawful ∧ lawfulListener.controller.state = .listen :=
  ⟨lawful_listener, rfl⟩

/-- A synchronised listener in the slot before its own. -/
def listens (wait : Nat) (v : Verdict) : State :=
  let s := heard v (inSlot 0 (station 1 .listen))
  { s with controller := { s.controller with waitCount := wait } }

/-- The same with a silent slot. -/
def listensToSilence (wait : Nat) : State :=
  let s := inSlot 0 (station 1 .listen)
  { s with controller := { s.controller with waitCount := wait } }

theorem witness_ListenerWatchesTheSchedule :
    (∀ v, (listens 2 v).controller.state = .listen ∧ (listens 2 v).SlotEndsWith v) ∧
      (tally 0 [] none).round = (listens 2 .silent).bus.round ∧
      { tally 0 [] none with round := 9 }.round ≠ (listens 2 .silent).bus.round ∧
      (∀ n, (listensToSilence n).controller.state = .listen ∧
        (listensToSilence n).SlotEndsWith .silent ∧
        (listensToSilence n).nextSlot = (listensToSilence n).stationNumber) ∧
      (listensToSilence 2).controller.waitCount + 1 < (listensToSilence 2).stationCount ∧
      (listensToSilence 3).stationCount ≤ (listensToSilence 3).controller.waitCount + 1 ∧
      (inSlot 1 (station 1 .listen)).controller.state = .listen ∧
      (inSlot 1 (station 1 .listen)).bus.slot = (inSlot 1 (station 1 .listen)).stationNumber ∧
      (inSlot 1 (station 1 .listen)).controller.waitCount <
        (inSlot 1 (station 1 .listen)).stationCount ∧
      (listensToSilence 4).stationCount ≤ (listensToSilence 4).controller.waitCount :=
  ⟨fun _ => ⟨rfl, ⟨rfl, ok, .inl rfl, ok, rfl⟩⟩, rfl, ok,
    fun _ => ⟨rfl, ⟨rfl, ok, .inl rfl, ok, rfl⟩, rfl⟩, ok, ok, rfl, rfl, by decide, ok⟩

/-- JOINING station 1 in a slot. -/
def asks (slot timer failures : Nat) : State :=
  let s := inSlot slot (station 1 .joining)
  { s with controller := { s.controller with joinTimer := timer, failures := failures } }

/-- RECEIVING station 3 in a slot. -/
def asksOn (slot : Nat) (r : Receiving) : State :=
  transferring ⟨[], none, some r⟩ (inSlot slot (station 3 .receiving))

theorem witness_JoinerAsksOrTimesOut :
    (∀ n m, (asks 0 n m).controller.state = .joining ∧ (asks 0 n m).SlotEndsWith .silent ∧
      (asks 0 n m).bus.slot ≠ (asks 0 n m).stationNumber ∧
      (asks 0 n m).nextSlot = (asks 0 n m).stationNumber ∧
      (asks 1 n m).controller.state = .joining ∧
      (asks 1 n m).bus.slot = (asks 1 n m).stationNumber) ∧
      (∀ k, (asks k 7 0).controller.joinTimer < 8 ∧ 8 ≤ (asks k 8 6).controller.joinTimer ∧
        (asks k 8 6).controller.failures + 1 < 8 ∧ 8 ≤ (asks k 8 7).controller.failures + 1) ∧
      (∀ r, (asksOn 2 r).controller.state = .receiving ∧ (asksOn 2 r).SlotEndsWith .silent ∧
        (asksOn 2 r).transfer.receiving = some r ∧
        (asksOn 2 r).bus.slot ≠ (asksOn 2 r).stationNumber ∧
        (asksOn 2 r).nextSlot = (asksOn 2 r).stationNumber) ∧
      (asksOn 2 ⟨7, 8, 0⟩).bus.slot ≠ 0 ∧ stationIn 7 2 = true ∧ stationIn 3 2 = false ∧
      (∀ r, (asksOn 3 r).controller.state = .receiving ∧ (asksOn 3 r).transfer.receiving = some r ∧
        (asksOn 3 r).bus.slot = (asksOn 3 r).stationNumber) :=
  ⟨fun _ _ => ⟨rfl, ⟨rfl, ok, .inl rfl, ok, rfl⟩, ok, rfl, rfl, rfl⟩, fun _ => ⟨ok, ok, ok, ok⟩,
    fun _ => ⟨rfl, ⟨rfl, ok, .inl rfl, ok, rfl⟩, rfl, ok, rfl⟩, by decide, by decide, by decide,
    fun _ => ⟨rfl, rfl, rfl⟩⟩

/-- A JOINING station at the end of its own slot. -/
def askedAndHeard (back : List Byte) (failures : Nat) : State :=
  let s := sentAndHeard (.join (joinOf 1 none)) (inSlot 1 (station 1 .joining))
  { s with
    bus := { s.bus with loopback := back }
    controller := { s.controller with failures := failures } }

set_option maxRecDepth 20000 in
theorem witness_JoinLoopbackDecides :
    (∀ back n, (askedAndHeard back n).controller.state = .joining ∧
      (askedAndHeard back n).SlotEndsWith (.intact (.join (joinOf 1 none)) true) ∧
      (askedAndHeard back n).bus.slot = (askedAndHeard back n).stationNumber ∧
      (askedAndHeard back n).frameCheck.transmit ≠ [] ∧
      (askedAndHeard back n).nextSlot ≠ (askedAndHeard back n).stationNumber) ∧
      (askedAndHeard (Frame.join (joinOf 1 none)).bytes 0).bus.loopback =
        (askedAndHeard (Frame.join (joinOf 1 none)).bytes 0).frameCheck.transmit ∧
      readFrame (askedAndHeard [] 0).frameCheck.transmit ≠ none ∧
      (askedAndHeard [] 0).bus.loopback ≠ (askedAndHeard [] 0).frameCheck.transmit ∧
      (askedAndHeard [] 6).controller.failures + 1 < 8 ∧
      8 ≤ (askedAndHeard [] 7).controller.failures + 1 ∧
      (askedAndHeard [] 0).bus.carried = false ∧
      (let s := askedAndHeard (Frame.join (joinOf 1 none)).bytes 0
       { s with bus := { s.bus with carried := true } }.SlotEndsWith
        (.intact (.join (joinOf 1 none)) true)) :=
  ⟨fun _ _ => ⟨rfl, ⟨rfl, ok, .inl rfl, ok, rfl⟩, rfl, nofun, ok⟩, rfl, ok,
    nofun, by decide, by decide, rfl, ⟨rfl, by decide, .inl rfl, by decide, rfl⟩⟩

/-- JOINING station 3 at the end of donor 0's slot, which carried a verdict. -/
def joiningHears (v : Verdict) : State := heard v (inSlot 0 (station 3 .joining))

/-- The same at the end of a silent slot. -/
def joiningHearsNothing : State := inSlot 0 (station 3 .joining)

theorem witness_TransferFrameBeginsReceiving :
    (∀ v, (joiningHears v).controller.state = .joining ∧ (joiningHears v).SlotEndsWith v ∧
      (joiningHears v).bus.slot ≠ (joiningHears v).stationNumber) ∧
      joiningHearsNothing.SlotEndsWith .silent ∧
      (tally 0 [take1] (some (section_ 3 0))).transfer = some (section_ 3 0) ∧
      (section_ 3 0).joiner = joiningHearsNothing.stationNumber ∧ (section_ 3 0).first = 0 ∧
      (section_ 3 4).first ≠ 0 ∧
      (∀ y z, Frame.join (joinOf 0 none) = .tally y → y.transfer = some z →
        z.joiner ≠ joiningHearsNothing.stationNumber) ∧
      (∀ y z, Frame.tally (tally 0 [] none) = .tally y → y.transfer = some z →
        z.joiner ≠ joiningHearsNothing.stationNumber) ∧
      (Frame.tally (tally 0 [] none)).round = joiningHearsNothing.bus.round ∧
      (Frame.tally { tally 0 [] none with round := 9 }).round ≠ joiningHearsNothing.bus.round := by
  refine ⟨fun _ => ⟨rfl, ⟨rfl, ok, .inl rfl, ok, rfl⟩, ok⟩, ⟨rfl, by decide, .inl rfl, by decide, rfl⟩, rfl,
    rfl, rfl, by decide, nofun, ?_, rfl, by decide⟩
  rintro y z ⟨⟩ ⟨⟩

/-- RECEIVING station 3 at the end of a slot, following {0, 1, 2} with donor 0 and digest 5. -/
def receives (slot next : Nat) (v : Verdict) : State :=
  let s := transferring ⟨[], none, some ⟨7, next, 0⟩⟩ (heard v (inSlot slot (station 3 .receiving)))
  { s with agreement := { s.agreement with digest := 5 } }

theorem witness_DonorFrameIsInstalled :
    let f := tally 0 [take1] (some (section_ 3 24))
    let s := receives 0 24 (.intact (.tally f) true)
    s.controller.state = .receiving ∧ s.SlotEndsWith (.intact (.tally f) true) ∧
      s.bus.start = .inWindow 520 ∧ s.bus.slot ≠ s.stationNumber ∧
      s.transfer.receiving = some ⟨7, 24, 0⟩ ∧ f.round = s.bus.round ∧ f.view = 7 ∧
      f.digest = s.agreement.digest ∧ f.transfer = some (section_ 3 24) ∧
      (section_ 3 24).joiner = s.stationNumber ∧ 24 ≤ 27 :=
  ⟨rfl, ⟨rfl, by decide, .inl rfl, by decide, rfl⟩, rfl, by decide, rfl, rfl, rfl, rfl, rfl,
    rfl, by decide⟩

theorem witness_LastDonorFrameAdmits :
    lawfulReceiver.Lawful ∧ lawfulReceiver.controller.state = .receiving ∧
      lawfulReceiver.SlotEndsWith (.intact (.tally lastFrame) true) ∧
      lawfulReceiver.bus.start = .inWindow 520 ∧
      lawfulReceiver.bus.slot ≠ lawfulReceiver.stationNumber ∧
      lawfulReceiver.transfer.receiving = some ⟨7, 28, 0⟩ ∧ lawfulReceiver.bus.slot = 0 ∧
      lastFrame.round = lawfulReceiver.bus.round ∧ lastFrame.view = 7 ∧
      lastFrame.digest = lawfulReceiver.agreement.digest ∧
      lastFrame.transfer = some (section_ 3 28) ∧
      (section_ 3 28).joiner = lawfulReceiver.stationNumber :=
  ⟨lawful_receiver, rfl, ⟨rfl, by decide, .inl rfl, by decide, rfl⟩, rfl, by decide, rfl, rfl,
    rfl, rfl, rfl, rfl, rfl⟩

theorem witness_TransferAborts :
    (receives 0 8 (.intact (.join (joinOf 0 none)) false)).foreignHeard 0 (joinOf 0 none).tag =
        (if Verdict.intact (.join (joinOf 0 none)) false = .intact (.join (joinOf 0 none)) false
          then (receives 0 8 (.intact (.join (joinOf 0 none)) false)).foreignHeard 0
            (joinOf 0 none).tag
          else receives 0 8 (.intact (.join (joinOf 0 none)) false)) ∧
    (∀ n v, (receives n 8 v).controller.state = .receiving ∧ (receives n 8 v).SlotEndsWith v ∧
      (receives n 8 v).transfer.receiving = some ⟨7, 8, 0⟩) ∧
      (receives 0 8 (.bad .crc)).bus.slot ≠ (receives 0 8 (.bad .crc)).stationNumber ∧
      (receives 1 8 (.bad .crc)).bus.slot ≠ 0 ∧
      (receives 2 8 (.bad .crc)).nextSlot = (receives 2 8 (.bad .crc)).stationNumber ∧
      stationIn 7 (receives 2 8 (.bad .crc)).bus.slot = true ∧
      stationIn 7 (receives 1 8 (.bad .crc)).bus.slot = true ∧
      (receives 0 8 (.bad .crc)).controller.failures + 1 < 8 :=
  ⟨(if_pos rfl).symm, fun _ _ => ⟨rfl, ⟨rfl, ok, .inl rfl, ok, rfl⟩, rfl⟩, ok, ok, ok,
    by decide, by decide, by decide⟩

/-- The same at the end of station 1's silent slot. -/
def receivesNothing : State :=
  let s := transferring ⟨[], none, some ⟨7, 8, 0⟩⟩ (inSlot 1 (station 3 .receiving))
  { s with agreement := { s.agreement with digest := 5 } }

/-- The same at the end of the slot of station 1, outside the followed view {0, 2}. -/
def outsideHears (v : Verdict) : State :=
  transferring ⟨[], none, some ⟨5, 8, 0⟩⟩ (heard v (inSlot 1 (station 3 .receiving)))

theorem witness_FollowedStationIsFollowed :
    (∀ v, (receives 1 8 v).controller.state = .receiving ∧ (receives 1 8 v).SlotEndsWith v ∧
      (receives 1 8 v).bus.slot ≠ (receives 1 8 v).stationNumber ∧
      (receives 1 8 v).transfer.receiving = some ⟨7, 8, 0⟩) ∧
      receivesNothing.SlotEndsWith .silent ∧
      receivesNothing.transfer.receiving = some ⟨7, 8, 0⟩ ∧
      receivesNothing.controller.state = .receiving ∧ receivesNothing.bus.slot ≠ 0 ∧
      receivesNothing.bus.slot ≠ receivesNothing.stationNumber ∧
      stationIn 7 receivesNothing.bus.slot = true ∧
      stationIn 5 receivesNothing.bus.slot = false ∧
      (∀ x, (tally 1 [take1] x).round = receivesNothing.bus.round ∧ (tally 1 [take1] x).view = 7 ∧
        (tally 1 [take1] x).digest = receivesNothing.agreement.digest ∧
        (tally 1 [take1] x).sender = receivesNothing.bus.slot) ∧
      (outsideHears (.intact (.tally (tally 1 [] none)) true)).transfer.receiving =
        some ⟨5, 8, 0⟩ ∧
      (∀ v, (outsideHears v).SlotEndsWith v) ∧
      (joinOf 1 none).round = receivesNothing.bus.round :=
  ⟨fun _ => ⟨rfl, ⟨rfl, ok, .inl rfl, ok, rfl⟩, ok, rfl⟩, ⟨rfl, by decide, .inl rfl, by decide, rfl⟩, rfl,
    rfl, by decide, by decide, by decide, by decide, fun _ => ⟨rfl, rfl, rfl, rfl⟩, rfl,
    fun _ => ⟨rfl, ok, .inl rfl, ok, rfl⟩, rfl⟩

theorem witness_ContributionReachesWatches :
    (station 1 .ready).controller.state ≠ .member ∧ lawfulMember.controller.state = .member ∧
      lawfulMember.WatchLaw :=
  ⟨by decide, rfl, lawful_member.watch⟩

theorem eventLaw_full : (eventful 32 .eventsLost (member 1 2 7)).EventLaw := by
  unfold State.EventLaw; decide

theorem witness_EventLawKept :
    (eventful 32 .eventsLost (member 1 2 7)).EventLaw ∧
      step (eventful 32 .eventsLost (member 1 2 7)) =
        .next (eventful 32 .eventsLost (member 1 2 7)).tick :=
  ⟨eventLaw_full, rfl⟩

/-- The hypotheses of the six statements about laws that every step from a lawful state keeps. -/
theorem witness_LawsKept :
    (lawfulMember.Lawful ∧ step lawfulMember = .next lawfulMember.tick) ∧
      (lawfulReceiver.Lawful ∧ step lawfulReceiver = .next lawfulReceiver.tick) ∧
      (lawfulListener.Lawful ∧ step lawfulListener = .next lawfulListener.tick) :=
  ⟨⟨lawful_member, rfl⟩, ⟨lawful_receiver, rfl⟩, ⟨lawful_listener, rfl⟩⟩

theorem witness_TableAndConfigurationAreFixed :
    exec .slotEnd (member 1 2 7) = .next (member 1 2 7).endSlot ∧ .slotEnd ≠ Instr.powerOn ∧
      .slotEnd ≠ Instr.resetnAssert ∧ requestOf .leave ≠ none ∧
      (member 1 2 7).controller.state ≠ .unconfigured ∧
      (member 1 2 7).controller.state ≠ .ready ∧ (member 1 2 7).host.resetPending = false ∧
      (requestOf (.post [])).map Prod.fst ≠ some 0x02 ∧
      (∀ received, (selected (station 1 .ready)).host.phase ≠ .parameters 0x02 received) :=
  ⟨rfl, by decide, by decide, by decide, by decide, by decide, rfl, by decide, nofun⟩

end Sys2Proof.Tests
end

section
/-! PROOF. Cells: the arithmetic of a contribution (R6 to R20): the numbers patterns stand for, the
range rule once for every mode and policy, the quotient and remainder of DIVIDE, and the statements
about ADD to CLEAR FLAGS built from them. -/

namespace Sys2Proof.Machine

/-! ### The numbers of a mode -/

/-- R1: the bounds of a mode lie on both sides of 0, at most a wrap (2^40) away. -/
theorem mode_bounds (mode : CellMode) : -2 ^ 40 ≤ lowest mode ∧ lowest mode ≤ 0 ∧
    0 ≤ highest mode ∧ highest mode < 2 ^ 40 := by
  cases mode <;> simp [lowest, highest]

/-- R6: a pattern of no more than 40 bits stands for a number in the range of the mode. -/
theorem patternValue_inRange {w : Nat} (hw : w ≤ 40) (mode : CellMode) (x : BitVec w) :
    lowest mode ≤ patternValue mode x ∧ patternValue mode x ≤ highest mode := by
  cases mode with
  | unsigned =>
    have hlt : x.toNat < 2 ^ 40 := x.isLt.trans_le (Nat.pow_le_pow_right (by decide) hw)
    simp only [lowest, highest, patternValue]
    omega
  | signed =>
    have hpow : (2 : Int) ^ (w - 1) ≤ 2 ^ 39 := pow_le_pow_right₀ (by decide) (by omega)
    have hle := x.le_toInt
    have hlt := x.toInt_lt
    simp only [lowest, highest, patternValue]
    omega

theorem patternValue_eq_zero_iff {w : Nat} (mode : CellMode) (x : BitVec w) :
    patternValue mode x = 0 ↔ x = 0 := by
  cases mode with
  | unsigned => simp [patternValue, ← BitVec.toNat_inj]
  | signed => simp [patternValue, ← BitVec.toInt_inj]

/-- In either mode the magnitude of the number is below the count of the patterns. -/
theorem natAbs_patternValue_lt {w : Nat} (mode : CellMode) (x : BitVec w) :
    (patternValue mode x).natAbs < 2 ^ w := by
  cases mode with
  | unsigned => exact x.isLt
  | signed =>
    have := x.isLt
    simp only [patternValue, BitVec.toInt_eq_toNat_cond]
    split <;> omega

/-- R12, R13: the product of two 16-bit factors lies in the range of the mode. -/
theorem product_inRange (mode : CellMode) (a b : BitVec 16) :
    lowest mode ≤ patternValue mode a * patternValue mode b ∧
      patternValue mode a * patternValue mode b ≤ highest mode := by
  have habs : (patternValue mode a * patternValue mode b).natAbs < 2 ^ 16 * 2 ^ 16 := by
    rw [Int.natAbs_mul]
    exact Nat.mul_lt_mul'' (natAbs_patternValue_lt mode a) (natAbs_patternValue_lt mode b)
  cases mode with
  | unsigned =>
    have hnonneg : 0 ≤ patternValue .unsigned a * patternValue .unsigned b :=
      Int.mul_nonneg (Int.natCast_nonneg _) (Int.natCast_nonneg _)
    simp only [lowest, highest]
    omega
  | signed =>
    simp only [lowest, highest]
    omega

/-! ### The range rule (R7, R8) -/

/-- A true result at most a wrap outside the range is brought into it by either policy. -/
theorem brought_inRange (mode : CellMode) (policy : CellPolicy) {r : Int}
    (hl : lowest mode - 2 ^ 40 ≤ r) (hh : r ≤ highest mode + 2 ^ 40)
    (hout : ¬ (lowest mode ≤ r ∧ r ≤ highest mode)) :
    lowest mode ≤ brought mode policy r ∧ brought mode policy r ≤ highest mode := by
  have hspan : highest mode = lowest mode + 2 ^ 40 - 1 := by cases mode <;> rfl
  cases policy <;> simp only [brought] <;> split <;> omega

/-- R7, R8: the value after the range rule, which one wrap or one bound brings into the range. -/
theorem patternValue_ranged (c : Cell) (mode : CellMode) (policy : CellPolicy) {r : Int}
    (hl : lowest mode - 2 ^ 40 ≤ r) (hh : r ≤ highest mode + 2 ^ 40) :
    patternValue mode (c.ranged mode policy r).value =
      if lowest mode ≤ r ∧ r ≤ highest mode then r else brought mode policy r := by
  unfold Cell.ranged
  split
  next hin => exact patternValue_ofInt mode r hin.1 hin.2
  next hout =>
    obtain ⟨hbl, hbh⟩ := brought_inRange mode policy hl hh hout
    exact patternValue_ofInt mode _ hbl hbh

theorem ranged_flags (c : Cell) (mode : CellMode) (policy : CellPolicy) (r : Int) :
    (c.ranged mode policy r).flags =
      if lowest mode ≤ r ∧ r ≤ highest mode then c.flags else c.flags.setRange mode := by
  unfold Cell.ranged
  split <;> rfl

/-- A sum of two numbers of the mode is at most a wrap outside its range. -/
theorem add_withinWrap {mode : CellMode} {v y : Int} (hv : lowest mode ≤ v ∧ v ≤ highest mode)
    (hy : lowest mode ≤ y ∧ y ≤ highest mode) :
    lowest mode - 2 ^ 40 ≤ v + y ∧ v + y ≤ highest mode + 2 ^ 40 := by
  have := mode_bounds mode
  omega

/-- A difference of two numbers of the mode is at most a wrap outside its range. -/
theorem sub_withinWrap {mode : CellMode} {v y : Int} (hv : lowest mode ≤ v ∧ v ≤ highest mode)
    (hy : lowest mode ≤ y ∧ y ≤ highest mode) :
    lowest mode - 2 ^ 40 ≤ v - y ∧ v - y ≤ highest mode + 2 ^ 40 := by
  have := mode_bounds mode
  omega

/-- Settles O23: each of the four kinds is the range rule on its true result, which is at most a wrap
outside the range. -/
theorem sumsFollowTheRangeRule : Obligations.SumsFollowTheRangeRule := by
  intro c mode policy kind operand r hkind
  have hv := patternValue_inRange le_rfl mode c.value
  have hx := patternValue_inRange (by decide) mode operand
  have hp := product_inRange mode (operand.extractLsb' 16 16) (operand.extractLsb' 0 16)
  have hranged : c.contribute mode policy kind operand =
      ((c.ranged mode policy r).counted, .applied) := by
    rcases hkind with ⟨rfl, rfl⟩ | ⟨rfl, rfl⟩ | ⟨rfl, rfl⟩ | ⟨rfl, rfl⟩ <;> rfl
  have hwrap : lowest mode - 2 ^ 40 ≤ r ∧ r ≤ highest mode + 2 ^ 40 := by
    rcases hkind with ⟨-, rfl⟩ | ⟨-, rfl⟩ | ⟨-, rfl⟩ | ⟨-, rfl⟩
    · exact add_withinWrap hv hx
    · exact sub_withinWrap hv hx
    · exact add_withinWrap hv hp
    · exact sub_withinWrap hv hp
  exact ⟨_, hranged, ranged_residue .., congrArg (· + 1) (ranged_version ..),
    patternValue_ranged c mode policy hwrap.1 hwrap.2, ranged_flags ..⟩

/-! ### TAKE (R15) -/

theorem contribute_take_refused (c : Cell) (mode : CellMode) (policy : CellPolicy)
    (operand : Operand) (h : patternValue mode c.value < patternValue mode operand) :
    c.contribute mode policy .take operand = (c.counted, .refused) := by
  simp [Cell.contribute, Cell.carryOut, Cell.takeAmount, amount, not_le.mpr h]

theorem contribute_take_granted (c : Cell) (mode : CellMode) (policy : CellPolicy)
    (operand : Operand) (h : patternValue mode operand ≤ patternValue mode c.value) :
    c.contribute mode policy .take operand =
      ((c.ranged mode policy (patternValue mode c.value - patternValue mode operand)).counted,
        .granted) := by
  simp [Cell.contribute, Cell.carryOut, Cell.takeAmount, amount, h]

/-- A TAKE from an UNSIGNED cell never passes the greatest value. -/
theorem signed_of_highest_lt_sub {mode : CellMode} (v : CellValue) (x : Operand)
    (h : highest mode < patternValue mode v - patternValue mode x) : mode = .signed := by
  cases mode with
  | unsigned =>
    have hv := patternValue_inRange le_rfl .unsigned v
    have hx := patternValue_inRange (by decide) .unsigned x
    simp only [lowest] at hx
    omega
  | signed => rfl

/-- Settles O24: a granted TAKE is the range rule on a true result of 0 or more on an UNSIGNED cell, so
only a SIGNED one can pass its greatest value. -/
theorem loadTakeAndClears : Obligations.LoadTakeAndClears := by
  intro c mode policy operand
  have hv := patternValue_inRange le_rfl mode c.value
  have hx := patternValue_inRange (by decide) mode operand
  refine ⟨⟨_, rfl, patternValue_ofInt mode _ hx.1 hx.2, rfl, rfl, rfl⟩, rfl, rfl,
    contribute_take_refused c mode policy operand, fun hgrant => ?_⟩
  obtain ⟨hwl, hwh⟩ := sub_withinWrap hv hx
  have hvalue := patternValue_ranged c mode policy hwl hwh
  have hflags := ranged_flags c mode policy (patternValue mode c.value - patternValue mode operand)
  refine ⟨_, contribute_take_granted c mode policy operand hgrant, ranged_residue ..,
    congrArg (· + 1) (ranged_version ..), fun hin => ?_, fun hover => ?_⟩
  · have hlow := mode_bounds mode
    rw [if_pos ⟨by omega, hin⟩] at hvalue hflags
    exact ⟨hvalue, hflags⟩
  · obtain rfl := signed_of_highest_lt_sub c.value operand hover
    rw [if_neg (by omega)] at hvalue hflags
    refine ⟨rfl, hflags, hvalue.trans ?_⟩
    cases policy <;> exact if_pos hover

/-! ### DIVIDE (R16 to R18) -/

/-- R16: a divisor of 0. -/
theorem contribute_divide_zero (c : Cell) (mode : CellMode) (policy : CellPolicy) :
    c.contribute mode policy .divide 0 =
      ({ c with flags := { c.flags with diverr := true }, version := c.version + 1 },
        .refused) := by
  cases mode <;> rfl

/-- R17, R18: the divisions with no zero divisor and no overflow. -/
theorem contribute_divide (c : Cell) (mode : CellMode) (policy : CellPolicy) {operand : Operand}
    (hne : operand ≠ 0) (hover : ¬ (mode = .signed ∧ patternValue mode c.value = lowest .signed ∧
      patternValue mode operand = -1)) :
    c.contribute mode policy .divide operand =
      (⟨BitVec.ofInt 40 ((patternValue mode c.value).tdiv (patternValue mode operand)),
        BitVec.ofInt 32 ((patternValue mode c.value).tmod (patternValue mode operand)),
        c.flags, c.version + 1⟩, .applied) := by
  have hx : patternValue mode operand ≠ 0 := mt (patternValue_eq_zero_iff mode operand).mp hne
  simp only [Cell.contribute, Cell.carryOut, Cell.divideBy, Cell.counted, amount, if_neg hx,
    if_neg hover, Int.tmod_def, Int.mul_comm]

/-- R18: the one overflow. The true quotient 2^39 goes through the range rule, the residue is 0. -/
theorem contribute_divide_overflow (c : Cell) (policy : CellPolicy) {operand : Operand}
    (hv : c.value.toInt = -2 ^ 39) (hx : operand.toInt = -1) :
    c.contribute .signed policy .divide operand =
      (⟨BitVec.ofInt 40 (brought .signed policy (2 ^ 39)), 0,
        { c.flags with overflow := true }, c.version + 1⟩, .applied) := by
  simp [Cell.contribute, Cell.carryOut, Cell.divideBy, Cell.counted, Cell.ranged, amount,
    patternValue, hv, hx, lowest, highest, CellFlags.setRange]

/-- The truncated quotient leaves a symmetric range only where the least number is divided by -1. -/
theorem tdiv_inRange {b v x : Int} (hb : 0 < b) (hl : -b ≤ v) (hh : v < b)
    (hover : ¬ (v = -b ∧ x = -1)) : -b ≤ v.tdiv x ∧ v.tdiv x < b := by
  have habs : (v.tdiv x).natAbs = v.natAbs / x.natAbs := Int.natAbs_tdiv v x
  have hle : v.natAbs / x.natAbs ≤ v.natAbs := Nat.div_le_self ..
  have hne : v.tdiv x ≠ b := by
    intro heq
    have hself : v.natAbs / x.natAbs = v.natAbs := by omega
    have hx : x.natAbs = 1 := (Nat.div_eq_self.mp hself).resolve_left (by omega)
    obtain rfl : x = 1 := by omega
    rw [Int.tdiv_one] at heq
    omega
  omega

/-- R18: a truncated remainder is 0 or carries the sign of the value. -/
theorem tmod_eq_zero_or_neg_iff (v x : Int) : v.tmod x = 0 ∨ (v.tmod x < 0 ↔ v < 0) := by
  by_cases hdvd : x ∣ v
  · exact .inl (Int.tmod_eq_zero_of_dvd hdvd)
  · have hsign : (v.tmod x).sign = v.sign := by rw [Int.sign_tmod, if_neg hdvd]
    exact .inr (by rw [← Int.sign_eq_neg_one_iff_neg, hsign, Int.sign_eq_neg_one_iff_neg])

/-- R17, R18: the magnitude of the remainder is less than that of the divisor. -/
theorem natAbs_tmod_lt (v : Int) {x : Int} (hx : x ≠ 0) : (v.tmod x).natAbs < x.natAbs := by
  rw [Int.natAbs_tmod]
  exact Nat.mod_lt _ (Int.natAbs_pos.mpr hx)

theorem toInt_ofInt_tmod (v : Int) {x : Operand} (hx : x.toInt ≠ 0) :
    (BitVec.ofInt 32 (v.tmod x.toInt)).toInt = v.tmod x.toInt := by
  have hlt := natAbs_tmod_lt v hx
  have hxl := x.le_toInt
  have hxh := x.toInt_lt
  apply BitVec.toInt_ofInt_eq_self (by decide) <;> omega

theorem toInt_ofInt_tdiv (v : CellValue) (x : Int) (hover : ¬ (v.toInt = -2 ^ 39 ∧ x = -1)) :
    (BitVec.ofInt 40 (v.toInt.tdiv x)).toInt = v.toInt.tdiv x := by
  obtain ⟨hl, hh⟩ := tdiv_inRange (by decide) v.le_toInt v.toInt_lt hover
  exact BitVec.toInt_ofInt_eq_self (by decide) hl hh

theorem toNat_ofInt_tdiv (v : CellValue) (x : Operand) :
    (BitVec.ofInt 40 ((v.toNat : Int).tdiv x.toNat)).toNat = v.toNat / x.toNat := by
  rw [← Int.ofNat_tdiv, BitVec.ofInt_natCast, BitVec.toNat_ofNat]
  exact Nat.mod_eq_of_lt ((Nat.div_le_self ..).trans_lt v.isLt)

theorem toNat_ofInt_tmod (v : CellValue) {x : Operand} (hx : 0 < x.toNat) :
    (BitVec.ofInt 32 ((v.toNat : Int).tmod x.toNat)).toNat = v.toNat % x.toNat := by
  rw [← Int.ofNat_tmod, BitVec.ofInt_natCast, BitVec.toNat_ofNat]
  exact Nat.mod_eq_of_lt ((Nat.mod_lt _ hx).trans x.isLt)

/-- Settles O25: the four cases of a division, by the divisor, the mode and the one overflow. -/
theorem divideKeepsRemainder : Obligations.DivideKeepsRemainder := by
  intro c mode policy operand
  refine ⟨fun hzero => hzero ▸ contribute_divide_zero c mode policy, fun hne => ?_,
    fun hne hover => ?_, fun hv hx => ⟨?_, contribute_divide_overflow c .saturate hv hx⟩⟩
  · have hpos : 0 < operand.toNat := Nat.pos_of_ne_zero fun h => hne (BitVec.eq_of_toNat_eq h)
    refine ⟨_, contribute_divide c .unsigned policy hne (by simp), rfl, rfl, ?_⟩
    simp only [patternValue, toNat_ofInt_tdiv, toNat_ofInt_tmod c.value hpos]
    exact ⟨Nat.div_add_mod' .., Nat.mod_lt _ hpos⟩
  · have hx : operand.toInt ≠ 0 := mt (patternValue_eq_zero_iff .signed operand).mp hne
    refine ⟨_, contribute_divide c .signed policy hne (fun h => hover h.2), rfl, rfl, ?_⟩
    simp only [patternValue, toInt_ofInt_tdiv c.value _ hover, toInt_ofInt_tmod _ hx]
    exact ⟨Int.tdiv_mul_add_tmod .., natAbs_tmod_lt _ hx, tmod_eq_zero_or_neg_iff ..⟩
  · have hwrap : BitVec.ofInt 40 (brought .signed .wrap (2 ^ 39)) = c.value := by
      rw [← BitVec.ofInt_toInt (x := c.value), hv]
      rfl
    rw [contribute_divide_overflow c .wrap hv hx, hwrap]

end Sys2Proof.Machine
end

section
/-! PROOF. Views: the slot of another station as a member judges it (R62, R66 to R73, R122, R123, R125):
the boundary of such a slot for any judgement that does not read the time, what each judgement does to
the view, the counts, the join queue and the serving record, and the statements about the slot ends of
a member and of a station outside the view built from them. -/

namespace Sys2Proof.Machine

/-! ### The boundary of a member's slot -/

theorem passTo_slotVerdict (s : State) (reading : Int) :
    (s.passTo reading).slotVerdict = s.slotVerdict := by
  have hrun : (s.passTo reading).bus.run.any Run.isFrame = s.bus.run.any Run.isFrame :=
    Option.any_map
  unfold State.slotVerdict
  rw [hrun]
  rfl

/-- R103: a member's listen timer stands still. -/
theorem listenAfter_member {s : State} (hm : s.controller.state = .member) (n : Nat) :
    s.listenAfter n = s.controller.listenTimer := by
  simp [State.listenAfter, hm]

/-- R27: the timer of a slot that is not yet past L reaches L exactly. -/
theorem passTo_slotTimer {s : State} (hs : s.bus.sync = true)
    (ht : s.bus.slotTimer ≤ (s.slotSixteenths : Int)) :
    (s.passTo s.slotSixteenths).bus.slotTimer = s.slotSixteenths := by
  simp only [State.passTo, State.passTime, State.timeToReading, hs, if_true]
  omega

/-- R27, R30: a member that reached L begins the next slot with its timer at 0 and its run carried. -/
theorem passTo_beginNextSlot {s : State} (hm : s.controller.state = .member)
    (hs : s.bus.sync = true) (ht : s.bus.slotTimer ≤ (s.slotSixteenths : Int)) :
    (s.passTo s.slotSixteenths).beginNextSlot = s.inNextSlot 0 := by
  have htimer : (s.passTo s.slotSixteenths).bus.slotTimer - s.slotSixteenths = -0 := by
    rw [passTo_slotTimer hs ht, sub_self, neg_zero]
  have hcontroller : (s.passTo s.slotSixteenths).controller = s.controller :=
    congrArg (fun n => { s.controller with listenTimer := n }) (listenAfter_member hm _)
  have hrun : (s.passTo s.slotSixteenths).bus.run.map (fun r => { r with isFrame := false }) =
      s.carriedRun := Option.map_map ..
  have hcarried : (s.passTo s.slotSixteenths).bus.run.isSome = s.bus.run.isSome :=
    Option.isSome_map
  unfold State.beginNextSlot
  simp only [State.passTo_slotSixteenths, htimer, hcontroller, hrun, hcarried]
  simp only [State.inNextSlot, State.passTo, State.passTime, State.nextSlot, State.nextRound, hs]
  rfl

/-- R27, R62: a slot end whose judgement does not depend on the time until the boundary: judged at once,
the station `t` stands at the start of the next slot. -/
theorem exec_slotEnd_judged {s t : State} {v : Verdict} (hm : s.controller.state = .member)
    (hend : s.SlotEndsWith v)
    (hjudge : (s.passTo s.slotSixteenths).judgeMember v = t.passTo s.slotSixteenths)
    (hbus : t.bus = s.bus := by rfl) (hcontroller : t.controller = s.controller := by rfl)
    (hconfig : t.config = s.config := by rfl) :
    exec .slotEnd s = .next (t.inNextSlot 0).signalOwnSlot := by
  obtain ⟨hsync, htx, hrun, htimer, hverdict⟩ := hend
  have hlength : t.slotSixteenths = s.slotSixteenths := by
    simp only [State.slotSixteenths, State.slotLength, hconfig]
  have hjudged : (s.passTo s.slotSixteenths).judgeSlot
      (s.passTo s.slotSixteenths).slotVerdict = t.passTo s.slotSixteenths := by
    rw [passTo_slotVerdict, hverdict, ← hjudge]
    have hstate : (s.passTo s.slotSixteenths).controller.state = .member := hm
    simp only [State.judgeSlot, hstate]
  have hstays : (t.passTo s.slotSixteenths).bus.sync = true := (congrArg Bus.sync hbus).trans hsync
  rw [exec_slotEnd_quiet s hsync htx hrun, slotBoundary_synchronised _ (hjudged ▸ hstays), hjudged,
    ← hlength,
    passTo_beginNextSlot (hcontroller ▸ hm) (hbus ▸ hsync) (by rw [hbus, hlength]; exact htimer)]

theorem judgeMember_inside {s : State} (hown : s.bus.slot ≠ s.stationNumber)
    (hin : stationIn s.agreement.view s.bus.slot = true) (v : Verdict) :
    s.judgeMember v = s.memberSlot s.bus.slot v :=
  (if_neg hown).trans (if_pos hin)

theorem judgeMember_outside {s : State} (hown : s.bus.slot ≠ s.stationNumber)
    (hout : stationIn s.agreement.view s.bus.slot = false) (v : Verdict) :
    s.judgeMember v = s.nonMemberSlot s.bus.slot v :=
  (if_neg hown).trans (if_neg (ne_true_of_eq_false hout))

/-! ### A member removed from the view -/

theorem stationRemove_ne {view : StationSet} {n : Nat} (h : stationIn view n = true) :
    stationRemove view n ≠ view := by
  intro heq
  have hgone := stationIn_remove view n n
  simp [heq, h] at hgone

/-- R66 to R69: dropping the slot's owner, a member of the view, always changes the view. -/
theorem dropPeer_owner {s : State} (hin : stationIn s.agreement.view s.bus.slot = true)
    (reason badReason : Nat) :
    s.dropPeer s.bus.slot reason badReason = s.withoutOwner reason badReason := by
  unfold State.dropPeer State.setView
  rw [if_neg (stationRemove_ne hin)]
  rfl

/-- R67, R69: the same with the slot counted as dissent. -/
theorem countDissent_dropPeer_owner {s : State}
    (hin : stationIn s.agreement.view s.bus.slot = true) (reason badReason : Nat) :
    s.countDissent.dropPeer s.bus.slot reason badReason =
      s.dissenting.withoutOwner reason badReason :=
  dropPeer_owner (s := s.dissenting) hin reason badReason

theorem joinRequest_new {s : State} {n : Nat} (h : n ∉ s.transfer.joinQueue) :
    s.joinRequest n = { s with transfer := { s.transfer with
      joinQueue := s.transfer.joinQueue ++ [n] } } :=
  if_neg h

theorem joinRequest_eq (s : State) (n : Nat) :
    s.joinRequest n = { s with transfer := { s.transfer with
      joinQueue := if n ∈ s.transfer.joinQueue then s.transfer.joinQueue
        else s.transfer.joinQueue ++ [n] } } := by
  unfold State.joinRequest
  split <;> rfl

theorem exec_slotEnd_memberSlot {s t : State} {v : Verdict} (hm : s.controller.state = .member)
    (hend : s.SlotEndsWith v) (hown : s.bus.slot ≠ s.stationNumber)
    (hin : stationIn s.agreement.view s.bus.slot = true)
    (hjudge : (s.passTo s.slotSixteenths).memberSlot s.bus.slot v = t.passTo s.slotSixteenths)
    (hbus : t.bus = s.bus := by rfl) (hcontroller : t.controller = s.controller := by rfl)
    (hconfig : t.config = s.config := by rfl) :
    exec .slotEnd s = .next (t.inNextSlot 0).signalOwnSlot :=
  exec_slotEnd_judged hm hend
    ((judgeMember_inside (s := s.passTo s.slotSixteenths) hown hin v).trans hjudge)
    hbus hcontroller hconfig

theorem agreesWith_iff (s : State) (x : TallyFrame) : s.agreesWith x = true ↔
    x.round = s.bus.round ∧ x.view = s.agreement.view ∧ x.digest = s.agreement.digest := by
  simp [State.agreesWith, and_assoc]

/-- Settles O36: each verdict short of an accepted frame drops the owner of the slot, with the reason
and the dissent that verdict carries. -/
theorem memberSlotNotAccepted : Obligations.MemberSlotNotAccepted := by
  intro s v reason f x j hm hend hown hin
  refine ⟨?silent, ?bad, ?foreign, ?disagreeing, ?join⟩
  case silent =>
    rintro rfl
    exact exec_slotEnd_memberSlot hm hend hown hin
      (dropPeer_owner (s := s.passTo s.slotSixteenths) hin 1 0)
  case bad =>
    rintro rfl
    exact exec_slotEnd_memberSlot (t := s.dissenting.withoutOwner ..) hm hend hown hin
      (countDissent_dropPeer_owner (s := s.passTo s.slotSixteenths) hin _ _)
  case foreign =>
    rintro rfl
    have hdrop := countDissent_dropPeer_owner (s := s.passTo s.slotSixteenths) hin 3 0
    refine exec_slotEnd_memberSlot (t := s.dissenting.withoutOwner 3 0) hm hend hown hin ?_
    cases f <;> exact hdrop
  case disagreeing =>
    rintro rfl hnot
    have hdis : ¬ (s.passTo s.slotSixteenths).agreesWith x = true := mt (agreesWith_iff _ x).mp hnot
    exact exec_slotEnd_memberSlot (t := s.dissenting.withoutOwner 3 0) hm hend hown hin
      ((if_neg hdis).trans (countDissent_dropPeer_owner (s := s.passTo s.slotSixteenths) hin 3 0))
  case join =>
    rintro rfl hnew
    have hdrop := dropPeer_owner (s := s.passTo s.slotSixteenths) hin 4 0
    exact exec_slotEnd_memberSlot (t := { s.withoutOwner 4 0 with transfer := _ }) hm hend hown hin
      ((congrArg (State.joinRequest · s.bus.slot) hdrop).trans (joinRequest_new hnew))

/-! ### A station outside the view -/

theorem stationAdd_of_in {seen : StationSet} {n : Nat} (h : stationIn seen n = true) :
    stationAdd seen n = seen := by
  refine BitVec.eq_of_getLsbD_eq fun m _ => (stationIn_add seen n m).trans ?_
  show (stationIn seen m || (decide (m = n) && decide (m < 16))) = stationIn seen m
  by_cases hmn : m = n
  · simp [hmn, h]
  · simp [hmn]

/-- R72: the foreign-seen handling latches FOREIGN, marks the station, and reports it once. -/
theorem foreignHeard_eq (s : State) (n : Nat) (tag : Byte) :
    s.foreignHeard n tag = { s with
      host := s.latchForeign.host
      agreement := { s.agreement with foreignSeen := stationAdd s.agreement.foreignSeen n }
      events := if stationIn s.agreement.foreignSeen n then s.events
        else arrive s.events
          ⟨.foreignSeen, s.bus.round, byteOf s.bus.slot, byteOf n, 0, tag, 0, 0, 0⟩ } := by
  unfold State.foreignHeard
  by_cases h : stationIn s.agreement.foreignSeen n = true
  · simp only [State.latchForeign_agreement, h, if_true, stationAdd_of_in h]
    rfl
  · simp only [State.latchForeign_agreement, h]
    rfl

/-- R122, R123: a JOIN with matching tag queues the station once; any other verdict takes it out. -/
def joinQueueAfter (queue : List Nat) (n : Nat) (v : Verdict) : List Nat :=
  match v with
  | .intact (.join _) true => if n ∈ queue then queue else queue ++ [n]
  | .intact (.join _) false => queue.filter (· ≠ n)
  | .intact (.tally _) _ => queue.filter (· ≠ n)
  | .bad _ => queue.filter (· ≠ n)
  | .silent => queue.filter (· ≠ n)

theorem joinQueueAfter_of_not_join {v : Verdict} (h : ∀ k, v ≠ .intact (.join k) true)
    (queue : List Nat) (n : Nat) : joinQueueAfter queue n v = queue.filter (· ≠ n) := by
  unfold joinQueueAfter
  split
  · exact absurd rfl (h _)
  all_goals rfl

/-- R125: the serving record once the verdict on a station's slot has set the word of its service. -/
def servingAfter (serving : Option Serving) (n : Nat) (v : Verdict) : Option Serving :=
  serving.map fun sv => if sv.joiner = n then { sv with word := wordOf v } else sv

theorem noteWord_eq (s : State) (n : Nat) (v : Verdict) :
    s.noteWord n v = { s with transfer := { s.transfer with
      serving := servingAfter s.transfer.serving n v } } := by
  have hkeep : ∀ serving, serving = s.transfer.serving →
      { s with transfer := { s.transfer with serving := serving } } = s := by
    rintro _ rfl
    rfl
  unfold State.noteWord
  split
  · next sv hsv =>
    rw [hsv]
    by_cases hserved : sv.joiner = n
    · simp [servingAfter, hserved]
    · simpa [servingAfter, hserved] using (hkeep _ hsv.symm).symm
  · next hnone =>
    rw [hnone]
    exact (hkeep _ hnone.symm).symm

theorem takeVerdict_eq (s : State) (n : Nat) (v : Verdict) :
    s.takeVerdict n v = { s with transfer := { s.transfer with
      joinQueue := joinQueueAfter s.transfer.joinQueue n v
      serving := servingAfter s.transfer.serving n v } } := by
  unfold State.takeVerdict
  split
  · rw [noteWord_eq, joinRequest_eq]; rfl
  all_goals rw [noteWord_eq]; rfl

theorem noteNonMember_foreign (s : State) (n : Nat) (f : Frame) :
    s.noteNonMember n (.intact f false) = s.foreignHeard n f.tag := by
  cases f <;> rfl

/-- R70, R72, R73: the Agreement Unit acts on a rival and on a foreign frame, and on nothing else. -/
theorem noteNonMember_cases (n : Nat) (v : Verdict) :
    (∃ y, v = .intact (.tally y) true) ∨ (∃ g, v = .intact g false) ∨
      ∀ s : State, s.noteNonMember n v = s := by
  match v with
  | .intact (.tally y) true => exact .inl ⟨y, rfl⟩
  | .intact g false => exact .inr (.inl ⟨g, rfl⟩)
  | .intact (.join _) true => exact .inr (.inr fun _ => rfl)
  | .bad _ => exact .inr (.inr fun _ => rfl)
  | .silent => exact .inr (.inr fun _ => rfl)

/-- R70, R72, R73: the Agreement Unit's part reaches the dissent count, the foreign-seen set, the events
and the latches only. -/
theorem noteNonMember_eq (s : State) (n : Nat) (v : Verdict) :
    s.noteNonMember n v = { s with
      agreement := { s.agreement with
        dissent := (s.noteNonMember n v).agreement.dissent
        foreignSeen := (s.noteNonMember n v).agreement.foreignSeen }
      events := (s.noteNonMember n v).events
      host := (s.noteNonMember n v).host } := by
  obtain ⟨y, rfl⟩ | ⟨g, rfl⟩ | hsame := noteNonMember_cases n v
  · rfl
  · rw [noteNonMember_foreign, foreignHeard_eq]
  · rw [hsame]

theorem noteNonMember_passTo (s : State) (reading : Int) (n : Nat) (v : Verdict) :
    (s.passTo reading).noteNonMember n v = (s.noteNonMember n v).passTo reading := by
  obtain ⟨y, rfl⟩ | ⟨g, rfl⟩ | hsame := noteNonMember_cases n v
  · rfl
  · rw [noteNonMember_foreign, noteNonMember_foreign, foreignHeard_eq, foreignHeard_eq]
    rfl
  · rw [hsame, hsame]

theorem noteNonMember_dissent {v : Verdict} (h : ∀ y, v ≠ .intact (.tally y) true) (s : State)
    (n : Nat) : (s.noteNonMember n v).agreement.dissent = s.agreement.dissent := by
  obtain ⟨y, rfl⟩ | ⟨g, rfl⟩ | hsame := noteNonMember_cases n v
  · exact absurd rfl (h y)
  · rw [noteNonMember_foreign, foreignHeard_eq]
  · rw [hsame]

theorem noteNonMember_foreignSeen {v : Verdict} (h : ∀ g, v ≠ .intact g false) (s : State)
    (n : Nat) : (s.noteNonMember n v).agreement.foreignSeen = s.agreement.foreignSeen := by
  obtain ⟨y, rfl⟩ | ⟨g, rfl⟩ | hsame := noteNonMember_cases n v
  · rfl
  · exact absurd rfl (h g)
  · rw [hsame]

/-- R70 to R73: the whole judgement: the Agreement Unit's part, then the join queue and the word. -/
theorem nonMemberSlot_eq (s : State) (n : Nat) (v : Verdict) :
    s.nonMemberSlot n v = { s.noteNonMember n v with transfer := { s.transfer with
      joinQueue := joinQueueAfter s.transfer.joinQueue n v
      serving := servingAfter s.transfer.serving n v } } := by
  unfold State.nonMemberSlot
  rw [takeVerdict_eq, noteNonMember_eq]

@[simp] theorem nonMemberSlot_bus (s : State) (n : Nat) (v : Verdict) :
    (s.nonMemberSlot n v).bus = s.bus := by rw [nonMemberSlot_eq, noteNonMember_eq]

@[simp] theorem nonMemberSlot_controller (s : State) (n : Nat) (v : Verdict) :
    (s.nonMemberSlot n v).controller = s.controller := by rw [nonMemberSlot_eq, noteNonMember_eq]

@[simp] theorem nonMemberSlot_config (s : State) (n : Nat) (v : Verdict) :
    (s.nonMemberSlot n v).config = s.config := by rw [nonMemberSlot_eq, noteNonMember_eq]

theorem nonMemberSlot_passTo (s : State) (reading : Int) (n : Nat) (v : Verdict) :
    (s.passTo reading).nonMemberSlot n v = (s.nonMemberSlot n v).passTo reading := by
  rw [nonMemberSlot_eq, nonMemberSlot_eq, noteNonMember_passTo]
  rfl

theorem exec_slotEnd_nonMemberSlot {s : State} {v : Verdict} (hm : s.controller.state = .member)
    (hend : s.SlotEndsWith v) (hown : s.bus.slot ≠ s.stationNumber)
    (hout : stationIn s.agreement.view s.bus.slot = false) :
    exec .slotEnd s = .next ((s.nonMemberSlot s.bus.slot v).inNextSlot 0).signalOwnSlot :=
  exec_slotEnd_judged hm hend
    ((judgeMember_outside (s := s.passTo s.slotSixteenths) hown hout v).trans
      (nonMemberSlot_passTo ..))
    (nonMemberSlot_bus ..) (nonMemberSlot_controller ..) (nonMemberSlot_config ..)

/-- Settles O37: the Agreement Unit's part and the Transfer Unit's part of the slot, read off for each
verdict. -/
theorem nonMemberSlot : Obligations.NonMemberSlot := by
  intro s v f x j reason e sv m hm hend hown hout
  refine ⟨_, exec_slotEnd_nonMemberSlot hm hend hown hout, ?_⟩
  rw [nonMemberSlot_eq]
  refine ⟨?frame, ?rival, fun h => noteNonMember_dissent h s _, ?foreign,
    fun h => noteNonMember_foreignSeen h s _, ?quiet, ?queued,
    fun h => joinQueueAfter_of_not_join h .., ?noService, ?otherService, ?served⟩
  case frame =>
    rw [noteNonMember_eq]
    rfl
  case rival =>
    rintro rfl
    exact ⟨rfl, rfl, rfl⟩
  case foreign =>
    rintro rfl
    rw [noteNonMember_foreign, foreignHeard_eq]
    exact ⟨rfl, rfl, rfl⟩
  case quiet =>
    rintro (rfl | ⟨r, rfl⟩ | rfl) <;> exact ⟨rfl, rfl⟩
  case queued =>
    rintro rfl
    rfl
  case noService =>
    intro hnone
    exact congrArg (servingAfter · s.bus.slot v) hnone
  case otherService =>
    intro hsv hother
    show servingAfter s.transfer.serving s.bus.slot v = some sv
    simp [servingAfter, hsv, hother]
  case served =>
    intro hsv hjoiner
    have hword : ∀ w, wordOf v = w →
        servingAfter s.transfer.serving s.bus.slot v = some ⟨sv.joiner, sv.next, w⟩ := by
      rintro _ rfl
      simp [servingAfter, hsv, hjoiner]
    refine ⟨?_, ?_, ?_, ?_, ?_⟩
    · rintro rfl hexpect
      exact hword _ (congrArg JoinerWord.join hexpect)
    · rintro rfl hexpect
      exact hword _ (congrArg JoinerWord.join hexpect)
    · rintro rfl
      exact hword _ rfl
    · rintro rfl
      exact hword _ rfl
    · rintro (rfl | rfl) <;> exact hword _ rfl

end Sys2Proof.Machine
end

section
/-! PROOF. Requests by tag: the post queue as the host port sees it. How a request with all its
parameter bytes is taken (R165), the codes POST checks (R85), the one post that holds a tag (R82,
R87, R89), what POST, CANCEL and QUERY POST claim of the queue, and the statements about them built
from these. -/

namespace Sys2Proof.Machine

/-! ### A request with all its parameter bytes -/

/-- Every request command shifts its code byte and its parameter bytes. -/
theorem exec_eq_shiftRequest {i : Instr} {code : Byte} {params : List Byte}
    (hi : requestOf i = some (code, params)) (s : State) :
    exec i s = .next (s.shiftRequest code params) := by
  cases i <;> cases hi <;> rfl

/-- R165: a complete request, shifted where the select period waits for its code byte, leaves the
state of its claim with the reply captured. -/
theorem exec_request {i : Instr} {s t : State} {code : Byte} {params fields : List Byte}
    {result : ResultCode} (hi : requestOf i = some (code, params)) (hs : s.awaitsCode)
    (hp : (requestParameters code).getD 0 = params.length)
    (hclaim : s.claim code params = (t, ⟨result, fields⟩)) :
    exec i s = .next (t.answering code params result fields) := by
  rw [exec_eq_shiftRequest hi, shiftRequest_code s code params hs hp, State.takeRequest, hclaim]
  rfl

/-! ### The codes of a kind and of a cell -/

theorem kindOfCode_kindCode {kind : ContributionKind} {b : Byte} (h : kindCode kind = b.toNat) :
    kindOfCode b = some kind := by
  unfold kindOfCode
  rw [← h]
  cases kind <;> rfl

theorem kindOfCode_eq_none_iff (b : Byte) :
    kindOfCode b = none ↔ ¬ (1 ≤ b.toNat ∧ b.toNat ≤ 9) := by
  unfold kindOfCode
  split
  case h_10 =>
    refine iff_of_true rfl ?_
    rintro ⟨h1, h9⟩
    interval_cases b.toNat <;> contradiction
  all_goals simp [*]

theorem cellOfByte_of_val {cell : Fin 32} {b : Byte} (h : cell.val = b.toNat) :
    cellOfByte b = some cell := by
  simp only [cellOfByte, ← h, cell.isLt, dite_true]

theorem cellOfByte_eq_none_iff (b : Byte) : cellOfByte b = none ↔ ¬ b.toNat ≤ 31 := by
  simp only [cellOfByte, dite_eq_right_iff, reduceCtorEq, imp_false]
  omega

/-! ### The post with a tag -/

theorem PostQueue.find_eq_none_iff (q : PostQueue) (tag : Byte) :
    q.find tag = none ↔ ∀ p ∈ q.posts, p.tag ≠ tag := by
  simp [PostQueue.find]

/-- R82: with distinct tags, the search finds the one post that holds the tag. -/
theorem PostQueue.find_of_mem {q : PostQueue} (hnodup : (q.posts.map Post.tag).Nodup) {p : Post}
    (hp : p ∈ q.posts) : q.find p.tag = some p := by
  cases hfind : q.find p.tag with
  | none => exact absurd rfl ((q.find_eq_none_iff p.tag).mp hfind p hp)
  | some r =>
    have htag : r.tag = p.tag := by simpa using List.find?_some hfind
    rw [List.inj_on_of_nodup_map hnodup (List.mem_of_find?_eq_some hfind) hp htag]

/-- R87: with distinct tags, to drop the posts with a post's tag is to take out that post alone. -/
theorem filter_tag_eq_erase {posts : List Post} (hnodup : (posts.map Post.tag).Nodup) {p : Post}
    (hp : p ∈ posts) : posts.filter (·.tag ≠ p.tag) = posts.erase p := by
  rw [hnodup.of_map.erase_eq_filter p]
  refine List.filter_congr fun q hq => ?_
  have hiff : q.tag = p.tag ↔ q = p :=
    ⟨List.inj_on_of_nodup_map hnodup hq hp, congrArg Post.tag⟩
  simp only [hiff, ne_eq, bne, decide_not, beq_eq_decide]

/-! ### POST -/

theorem claimPost_unconfigured {s : State} (h : s.controller.state = .unconfigured)
    (k c o3 o2 o1 o0 : Byte) :
    s.claimPost [k, c, o3, o2, o1, o0] = (s, ⟨.state, []⟩) :=
  if_pos h

/-- R85: outside UNCONFIGURED, a kind or a cell that no code names is out of range. -/
theorem claimPost_range {s : State} (h : s.controller.state ≠ .unconfigured) {k c : Byte}
    (hcodes : kindOfCode k = none ∨ cellOfByte c = none) (o3 o2 o1 o0 : Byte) :
    s.claimPost [k, c, o3, o2, o1, o0] = (s, ⟨.range, []⟩) := by
  refine (if_neg h).trans ?_
  obtain hk | hc := hcodes
  · rw [hk]
    rfl
  · rw [hc]
    cases kindOfCode k <;> rfl

/-- R85: outside UNCONFIGURED, a named kind and cell leave the room in the queue to decide. -/
theorem claimPost_named {s : State} (h : s.controller.state ≠ .unconfigured) {k c : Byte}
    {kind : ContributionKind} {cell : Fin 32} (hk : kindOfCode k = some kind)
    (hc : cellOfByte c = some cell) (o3 o2 o1 o0 : Byte) :
    s.claimPost [k, c, o3, o2, o1, o0] =
      if s.posts.posts.length < 16 then
        (s.appendPost kind cell (join4 o3 o2 o1 o0),
          ⟨.ok, [freeTag s.posts.posts 16 s.posts.nextTag]⟩)
      else (s, ⟨.queueFull, []⟩) := by
  refine (if_neg h).trans ?_
  rw [hk, hc]
  rfl

theorem exec_post {s t : State} {k c o3 o2 o1 o0 : Byte} {result : ResultCode}
    {fields : List Byte} (hs : s.awaitsCode)
    (hclaim : s.claimPost [k, c, o3, o2, o1, o0] = (t, ⟨result, fields⟩)) :
    exec (.post [k, c, o3, o2, o1, o0]) s =
      .next (t.answering 0x10 [k, c, o3, o2, o1, o0] result fields) :=
  exec_request rfl hs rfl hclaim

/-- Settles O14: each check of R85 in its order, and the post appended where all pass. -/
theorem postIsCheckedAndQueued : Obligations.PostIsCheckedAndQueued := by
  intro s k c o3 o2 o1 o0 kind cell hs
  refine ⟨?unconfigured, ?range, ?full, ?accepted⟩
  case unconfigured =>
    intro hstate
    exact exec_post hs (claimPost_unconfigured hstate ..)
  case range =>
    intro hstate hrange
    have hcodes : kindOfCode k = none ∨ cellOfByte c = none := by
      rw [kindOfCode_eq_none_iff, cellOfByte_eq_none_iff]
      omega
    exact exec_post hs (claimPost_range hstate hcodes ..)
  case full =>
    rintro hstate ⟨hk1, hk9, hc31⟩ hfull
    obtain ⟨kind, hkind⟩ := Option.ne_none_iff_exists'.mp
      (mt (kindOfCode_eq_none_iff k).mp (not_not.mpr ⟨hk1, hk9⟩))
    have hcell := cellOfByte_of_val (cell := ⟨c.toNat, by omega⟩) (b := c) rfl
    exact exec_post hs
      ((claimPost_named hstate hkind hcell ..).trans (if_neg (Nat.not_lt.mpr hfull)))
  case accepted =>
    intro hstate hkind hcell hroom
    exact exec_post hs ((claimPost_named hstate (kindOfCode_kindCode hkind)
      (cellOfByte_of_val hcell) ..).trans (if_pos hroom))

/-! ### CANCEL and QUERY POST -/

theorem exec_cancel {s t : State} {tag : Byte} {result : ResultCode} (hs : s.awaitsCode)
    (hclaim : s.claimCancel [tag] = (t, ⟨result, []⟩)) :
    exec (.cancel [tag]) s = .next (t.answering 0x11 [tag] result []) :=
  exec_request rfl hs rfl hclaim

theorem exec_queryPost {s : State} {tag : Byte} {result : ResultCode} {fields : List Byte}
    (hs : s.awaitsCode) (hclaim : s.claimQueryPost [tag] = (s, ⟨result, fields⟩)) :
    exec (.queryPost [tag]) s = .next (s.answering 0x12 [tag] result fields) :=
  exec_request rfl hs rfl hclaim

theorem claimCancel_unknown {s : State} {tag : Byte} (h : s.posts.find tag = none) :
    s.claimCancel [tag] = (s, ⟨.notFound, []⟩) := by
  simp only [State.claimCancel, h, Reply.only]

theorem claimCancel_queued {s : State} {tag : Byte} {p : Post} (h : s.posts.find tag = some p)
    (hqueued : p.status = .queued) :
    s.claimCancel [tag] =
      ({ s with posts := { s.posts with posts := s.posts.posts.filter (·.tag ≠ tag) } },
        ⟨.ok, []⟩) := by
  simp only [State.claimCancel, h, Post.queued, hqueued, if_true, Reply.ok]

theorem claimCancel_sent {s : State} {tag : Byte} {p : Post} {stamp : Round}
    {stored : Option PostResult} (h : s.posts.find tag = some p)
    (hsent : p.status = .sent stamp stored) :
    s.claimCancel [tag] = (s, ⟨.inFlight, []⟩) := by
  simp only [State.claimCancel, h, Post.queued, hsent, Bool.false_eq_true, if_false, Reply.only]

theorem claimQueryPost_unknown {s : State} {tag : Byte} (h : s.posts.find tag = none) :
    s.claimQueryPost [tag] = (s, ⟨.notFound, []⟩) := by
  simp only [State.claimQueryPost, h, Reply.only]

theorem claimQueryPost_queued {s : State} {tag : Byte} {p : Post} (h : s.posts.find tag = some p)
    (hqueued : p.status = .queued) :
    s.claimQueryPost [tag] = (s, ⟨.ok, [0, 0, 0]⟩) := by
  simp only [State.claimQueryPost, h, hqueued, Reply.ok]

theorem claimQueryPost_sent {s : State} {tag : Byte} {p : Post} {stamp : Round}
    {stored : Option PostResult} (h : s.posts.find tag = some p)
    (hsent : p.status = .sent stamp stored) :
    s.claimQueryPost [tag] = (s, ⟨.ok, 1 :: bytes2 stamp⟩) := by
  simp only [State.claimQueryPost, h, hsent, Reply.ok, List.singleton_append]

/-- Settles O16: the search by tag finds the one post that holds it, and its status decides. -/
theorem cancelAndQueryByTag : Obligations.CancelAndQueryByTag := by
  intro s tag p stamp stored hs hnodup
  refine ⟨?unknown, ?queued, ?sent⟩
  case unknown =>
    intro hnone
    have hfind := (s.posts.find_eq_none_iff tag).mpr hnone
    exact ⟨exec_cancel hs (claimCancel_unknown hfind),
      exec_queryPost hs (claimQueryPost_unknown hfind)⟩
  case queued =>
    rintro hp rfl hqueued
    have hfind := PostQueue.find_of_mem hnodup hp
    rw [← filter_tag_eq_erase hnodup hp]
    exact ⟨exec_cancel hs (claimCancel_queued hfind hqueued),
      exec_queryPost hs (claimQueryPost_queued hfind hqueued)⟩
  case sent =>
    rintro hp rfl hsent
    have hfind := PostQueue.find_of_mem hnodup hp
    exact ⟨exec_cancel hs (claimCancel_sent hfind hsent),
      exec_queryPost hs (claimQueryPost_sent hfind hsent)⟩

end Sys2Proof.Machine
end

section
/-! PROOF. Watch requests: the watch table as the host port sees it. The codes SET WATCH checks
(R141), the search for an equal watch and for an empty entry (R138, R142), what SET WATCH, CLEAR
WATCH and READ WATCH claim of the table (R141 to R144), and the statements about them built from
these. -/

namespace Sys2Proof.Machine

/-! ### The codes of a condition, of a line and of an entry -/

theorem exists_conditionCode {n : Nat} (h1 : 1 ≤ n) (h5 : n ≤ 5) :
    ∃ condition, conditionCode condition = n := by
  interval_cases n
  exacts [⟨.above, rfl⟩, ⟨.below, rfl⟩, ⟨.equal, rfl⟩, ⟨.change, rfl⟩, ⟨.flagged, rfl⟩]

theorem conditionOfCode_conditionCode {condition : WatchCondition} {b : Byte}
    (h : conditionCode condition = b.toNat) : conditionOfCode b = some condition := by
  unfold conditionOfCode
  rw [← h]
  cases condition <;> rfl

theorem conditionOfCode_eq_none {b : Byte} (h : ¬ (1 ≤ b.toNat ∧ b.toNat ≤ 5)) :
    conditionOfCode b = none := by
  unfold conditionOfCode
  split
  case h_6 => rfl
  all_goals omega

theorem exists_lineCode {n : Nat} (h : n ≤ 3 ∨ n = 255) : ∃ line, lineCode line = n := by
  obtain h3 | rfl := h
  · exact ⟨some ⟨n, Nat.lt_succ_of_le h3⟩, rfl⟩
  · exact ⟨none, rfl⟩

/-- R137: only the code of none lies above 3. -/
theorem lineCode_le_three_iff (line : Option (Fin 4)) : lineCode line ≤ 3 ↔ line ≠ none := by
  cases line with
  | some x => exact iff_of_true (Nat.le_of_lt_succ x.isLt) nofun
  | none => exact iff_of_false (by decide) (not_not.mpr rfl)

/-- R141: codes that pass check 3 name no line for CHANGE. -/
theorem line_none_of_codes {condition : WatchCondition} {line : Option (Fin 4)} {k l : Nat}
    (hk : conditionCode condition = k) (hline : lineCode line = l)
    (h : l = 255 ∨ (l ≤ 3 ∧ k ≠ 4)) : condition = .change → line = none := by
  rintro rfl
  have hk4 : 4 = k := hk
  by_contra hsome
  have hl3 := (lineCode_le_three_iff line).mpr hsome
  omega

theorem lineOfCode_lineCode {line : Option (Fin 4)} {b : Byte} (h : lineCode line = b.toNat) :
    lineOfCode b = some line := by
  cases line with
  | some x =>
    have hx : x.val = b.toNat := h
    simp only [lineOfCode, ← hx, x.isLt, dite_true]
  | none =>
    obtain rfl : (255 : Byte) = b := BitVec.eq_of_toNat_eq h
    rfl

theorem lineOfCode_eq_none {b : Byte} (h : ¬ (b.toNat ≤ 3 ∨ b.toNat = 255)) :
    lineOfCode b = none := by
  have h255 : b ≠ 255 := fun hb => h (.inr (congrArg BitVec.toNat hb))
  exact (dif_neg (by omega)).trans (if_neg h255)

theorem entryOfByte_of_val {i : Fin 16} {b : Byte} (h : i.val = b.toNat) :
    entryOfByte b = some i := by
  simp only [entryOfByte, ← h, i.isLt, dite_true]

theorem entryOfByte_of_ge {b : Byte} (h : 16 ≤ b.toNat) : entryOfByte b = none :=
  dif_neg (Nat.not_lt.mpr h)

theorem byteOf_of_val {n : Nat} {b : Byte} (h : n = b.toNat) : byteOf n = b :=
  BitVec.eq_of_toNat_eq (by simp [byteOf, h])

/-! ### Thresholds -/

/-- R141: ABOVE, BELOW and EQUAL, the codes up to 3, keep the threshold of the request. -/
theorem storedThreshold_of_level {condition : WatchCondition} (h : conditionCode condition ≤ 3)
    (t : CellValue) : storedThreshold condition t = t := by
  cases condition with
  | change | flagged => exact absurd h (by decide)
  | above | below | equal => rfl

/-- R141: CHANGE and FLAGGED store 0, whatever the request says. -/
theorem storedThreshold_of_not_level {condition : WatchCondition}
    (h : ¬ conditionCode condition ≤ 3) (t : CellValue) : storedThreshold condition t = 0 := by
  cases condition with
  | change | flagged => rfl
  | above | below | equal => exact absurd (by decide) h

/-- R137, R141: a sound watch stores what a request with its condition stores, when the two
thresholds agree or the condition has none. -/
theorem threshold_eq_storedThreshold {w : Watch} (hsound : soundEntry (some w) = true)
    {t : CellValue} (ht : conditionCode w.condition ≤ 3 → w.threshold = t) :
    w.threshold = storedThreshold w.condition t := by
  by_cases hlevel : conditionCode w.condition ≤ 3
  · rw [storedThreshold_of_level hlevel, ht hlevel]
  · obtain ⟨hstored, -⟩ : w.threshold = storedThreshold w.condition w.threshold ∧ _ := by
      simpa [soundEntry] using hsound
    rw [hstored, storedThreshold_of_not_level hlevel, storedThreshold_of_not_level hlevel]

/-! ### The search of the table -/

theorem mem_watchEntries (i : Fin 16) : i ∈ watchEntries := by
  revert i
  decide

theorem getElem_watchEntries (i : Fin 16) : watchEntries[i.val]'i.isLt = i := by
  revert i
  decide

theorem sameWatch_iff (cell : Fin 32) (condition : WatchCondition) (t : CellValue)
    (entry : Option Watch) : sameWatch cell condition t entry = true ↔
      ∃ v ∈ entry, v.cell = cell ∧ v.condition = condition ∧ v.threshold = t := by
  cases entry <;> simp [sameWatch, and_assoc]

/-- R138, R141: a request is a duplicate exactly when some entry equals it. -/
theorem duplicateWatch_iff (s : State) (cell : Fin 32) (condition : WatchCondition)
    (t : CellValue) : s.duplicateWatch cell condition t = true ↔
      ∃ j : Fin 16, ∃ v ∈ s.watch.entries[j],
        v.cell = cell ∧ v.condition = condition ∧ v.threshold = t := by
  simp only [State.duplicateWatch, List.any_eq_true, sameWatch_iff, mem_watchEntries, true_and]

theorem emptyEntry_eq_none {s : State} (h : ∀ j : Fin 16, s.watch.entries[j] ≠ none) :
    s.emptyEntry = none :=
  List.find?_eq_none.mpr fun j _ hj => h j (Option.isNone_iff_eq_none.mp hj)

/-- R142: the entry filled is the lowest-numbered empty one. -/
theorem emptyEntry_eq_some {s : State} {i : Fin 16} (hi : s.watch.entries[i] = none)
    (hlow : ∀ j : Fin 16, j < i → s.watch.entries[j] ≠ none) : s.emptyEntry = some i := by
  refine List.find?_eq_some_iff_getElem.mpr
    ⟨Option.isNone_iff_eq_none.mpr hi, i.val, i.isLt, getElem_watchEntries i, fun j hj => ?_⟩
  have hbelow : watchEntries[j]'(hj.trans i.isLt) < i := by
    rw [getElem_watchEntries ⟨j, hj.trans i.isLt⟩]
    exact hj
  have hfilled := Option.isSome_iff_ne_none.mpr (hlow _ hbelow)
  exact congrArg not (Option.isNone_eq_false_iff.mpr hfilled)

/-! ### The lines -/

/-- R140: a line recomputed from a table is asserted exactly when an entry assigned to it HOLDS. -/
theorem ofEntries_lines_iff (entries : Vector (Option Watch) 16) (line : Fin 4) :
    (WatchUnit.ofEntries entries).lines[line] = true ↔
      ∃ j : Fin 16, entryDrives line (WatchUnit.ofEntries entries).entries[j] = true := by
  rw [ofEntries_lines]
  exact lineLevel_iff entries line

/-! ### SET WATCH -/

theorem exec_setWatch {s t : State} {c k t4 t3 t2 t1 t0 l : Byte} {result : ResultCode}
    {fields : List Byte} (hs : s.awaitsCode)
    (hclaim : s.claimSetWatch [c, k, t4, t3, t2, t1, t0, l] = (t, ⟨result, fields⟩)) :
    exec (.setWatch [c, k, t4, t3, t2, t1, t0, l]) s =
      .next (t.answering 0x30 [c, k, t4, t3, t2, t1, t0, l] result fields) :=
  exec_request rfl hs rfl hclaim

theorem claimSetWatch_unconfigured {s : State} (h : s.controller.state = .unconfigured)
    (c k t4 t3 t2 t1 t0 l : Byte) :
    s.claimSetWatch [c, k, t4, t3, t2, t1, t0, l] = (s, ⟨.state, []⟩) :=
  if_pos h

/-- R141: outside UNCONFIGURED, a cell, condition or line that no code names is out of range. -/
theorem claimSetWatch_range {s : State} (h : s.controller.state ≠ .unconfigured) {c k l : Byte}
    (hcodes : cellOfByte c = none ∨ conditionOfCode k = none ∨ lineOfCode l = none)
    (t4 t3 t2 t1 t0 : Byte) :
    s.claimSetWatch [c, k, t4, t3, t2, t1, t0, l] = (s, ⟨.range, []⟩) := by
  refine (if_neg h).trans ?_
  obtain hc | hk | hl := hcodes
  · rw [hc]
    rfl
  · rw [hk]
    cases cellOfByte c <;> rfl
  · rw [hl]
    cases cellOfByte c <;> cases conditionOfCode k <;> rfl

/-- R141: outside UNCONFIGURED, a named cell, condition and line leave checks 3 to 5. -/
theorem claimSetWatch_named {s : State} (h : s.controller.state ≠ .unconfigured) {c k l : Byte}
    {cell : Fin 32} {condition : WatchCondition} {line : Option (Fin 4)}
    (hc : cell.val = c.toNat) (hk : conditionCode condition = k.toNat)
    (hl : lineCode line = l.toNat) (t4 t3 t2 t1 t0 : Byte) :
    s.claimSetWatch [c, k, t4, t3, t2, t1, t0, l] =
      s.setWatchChecked cell condition (join5 t4 t3 t2 t1 t0) line := by
  refine (if_neg h).trans ?_
  rw [cellOfByte_of_val hc, conditionOfCode_conditionCode hk, lineOfCode_lineCode hl]

theorem setWatchChecked_badLine {s : State} {condition : WatchCondition} {line : Option (Fin 4)}
    (hchange : condition = .change) (hline : line ≠ none) (cell : Fin 32) (t : CellValue) :
    s.setWatchChecked cell condition t line = (s, ⟨.badLine, []⟩) :=
  if_pos ⟨hchange, hline⟩

theorem setWatchChecked_duplicate {s : State} {cell : Fin 32} {condition : WatchCondition}
    {t : CellValue} {line : Option (Fin 4)} (hline : condition = .change → line = none)
    (hdup : s.duplicateWatch cell condition (storedThreshold condition t) = true) :
    s.setWatchChecked cell condition t line = (s, ⟨.duplicate, []⟩) :=
  (if_neg fun h => h.2 (hline h.1)).trans (if_pos hdup)

theorem setWatchChecked_full {s : State} {cell : Fin 32} {condition : WatchCondition}
    {t : CellValue} {line : Option (Fin 4)} (hline : condition = .change → line = none)
    (hnew : ¬ s.duplicateWatch cell condition (storedThreshold condition t) = true)
    (hnone : s.emptyEntry = none) :
    s.setWatchChecked cell condition t line = (s, ⟨.tableFull, []⟩) := by
  refine (if_neg fun h => h.2 (hline h.1)).trans ((if_neg hnew).trans ?_)
  rw [hnone]
  rfl

theorem setWatchChecked_fills {s : State} {cell : Fin 32} {condition : WatchCondition}
    {t : CellValue} {line : Option (Fin 4)} {i : Fin 16}
    (hline : condition = .change → line = none)
    (hnew : ¬ s.duplicateWatch cell condition (storedThreshold condition t) = true)
    (hsome : s.emptyEntry = some i) :
    s.setWatchChecked cell condition t line =
      s.fillEntry i ⟨cell, condition, storedThreshold condition t, line, false⟩ := by
  refine (if_neg fun h => h.2 (hline h.1)).trans ((if_neg hnew).trans ?_)
  rw [hsome]

/-- R142: a filled entry with the state its test finds, the lines recomputed, and WATCH_ON when it
HOLDS. -/
theorem fillEntry_eq (s : State) (i : Fin 16) (w : Watch) :
    s.fillEntry i w =
      ({ s with
          watch := .ofEntries (s.watch.entries.set i (some { w with holds := s.testWatch w }))
          events := if s.testWatch w then arrive s.events (s.watchEvent .watchOn i w.cell)
            else s.events },
        ⟨.ok, [byteOf i.val, byteOfBool (s.testWatch w)]⟩) := by
  unfold State.fillEntry
  cases s.testWatch w <;> rfl

/-- Settles O18: each check of R141 in its order; for a duplicate the law of the table says what an
entry without a threshold stores. -/
theorem setWatchRefusals : Obligations.SetWatchRefusals := by
  intro s c k t4 t3 t2 t1 t0 l i w hs hlaw
  refine ⟨?unconfigured, ?range, ?badLine, ?duplicate, ?full⟩
  case unconfigured =>
    intro hstate
    exact exec_setWatch hs (claimSetWatch_unconfigured hstate ..)
  case range =>
    intro hstate hrange
    refine exec_setWatch hs (claimSetWatch_range hstate ?_ ..)
    by_cases hc : c.toNat ≤ 31
    · by_cases hk : 1 ≤ k.toNat ∧ k.toNat ≤ 5
      · exact .inr (.inr (lineOfCode_eq_none fun hl => hrange ⟨hc, hk.1, hk.2, hl⟩))
      · exact .inr (.inl (conditionOfCode_eq_none hk))
    · exact .inl ((cellOfByte_eq_none_iff c).mpr hc)
  case badLine =>
    rintro hstate ⟨hc, hk, hl⟩
    obtain ⟨line, hline⟩ := exists_lineCode (.inl hl)
    have hsome : line ≠ none := (lineCode_le_three_iff line).mp (hline ▸ hl)
    exact exec_setWatch hs ((claimSetWatch_named hstate (cell := ⟨c.toNat, by omega⟩)
      (condition := .change) rfl hk.symm hline ..).trans (setWatchChecked_badLine rfl hsome ..))
  case duplicate =>
    rintro hstate ⟨-, -, hl⟩ ⟨hentry, hc, hk, ht⟩
    obtain ⟨line, hline⟩ := exists_lineCode (n := l.toNat) (by omega)
    obtain ⟨-, hsound, -⟩ := hlaw
    have hdup : s.duplicateWatch w.cell w.condition
        (storedThreshold w.condition (join5 t4 t3 t2 t1 t0)) = true :=
      (duplicateWatch_iff ..).mpr ⟨i, w, hentry, rfl, rfl,
        threshold_eq_storedThreshold (hentry ▸ hsound i) (hk ▸ ht)⟩
    exact exec_setWatch hs ((claimSetWatch_named hstate hc hk hline ..).trans
      (setWatchChecked_duplicate (line_none_of_codes hk hline hl) hdup))
  case full =>
    rintro hstate ⟨hc, hk1, hk5, hl⟩ hnew hfull
    obtain ⟨condition, hk⟩ := exists_conditionCode hk1 hk5
    obtain ⟨line, hline⟩ := exists_lineCode (n := l.toNat) (by omega)
    have hnodup : ¬ s.duplicateWatch ⟨c.toNat, by omega⟩ condition
        (storedThreshold condition (join5 t4 t3 t2 t1 t0)) = true := by
      intro hdup
      obtain ⟨j, v, hv, hcell, rfl, ht⟩ := (duplicateWatch_iff ..).mp hdup
      exact hnew j v hv
        ⟨congrArg Fin.val hcell, hk, fun h3 => ht.trans (storedThreshold_of_level (hk ▸ h3) _)⟩
    exact exec_setWatch hs ((claimSetWatch_named hstate rfl hk hline ..).trans
      (setWatchChecked_full (line_none_of_codes hk hline hl) hnodup (emptyEntry_eq_none hfull)))

/-- Settles O19: the request passes every check; the test is compared by condition and mode, and the
rest is read off the filled entry. -/
theorem setWatchFillsLowestEntry : Obligations.SetWatchFillsLowestEntry := by
  intro s c k t4 t3 t2 t1 t0 l cell condition line i holds hs hstate hc hk hl hline hnew hlow hempty
    hholds
  have htest : s.testWatch ⟨cell, condition, storedThreshold condition (join5 t4 t3 t2 t1 t0), line,
      false⟩ = holds := by
    rw [hholds]
    unfold State.testWatch conditionHolds
    cases condition <;> cases s.cellMode cell <;> rfl
  have hnodup : ¬ s.duplicateWatch cell condition
      (storedThreshold condition (join5 t4 t3 t2 t1 t0)) = true := by
    intro hdup
    obtain ⟨j, v, hv, hsame⟩ := (duplicateWatch_iff ..).mp hdup
    exact hnew j v hv hsame
  have hclaim := (claimSetWatch_named hstate hc hk hl t4 t3 t2 t1 t0).trans
    ((setWatchChecked_fills hline hnodup (emptyEntry_eq_some hempty hlow)).trans (fillEntry_eq ..))
  rw [htest] at hclaim
  refine ⟨_, exec_setWatch hs hclaim, rfl, rfl, ofEntries_lines_iff _, ?_, rfl⟩
  rw [← byteOf_of_val hc]
  rfl

/-! ### CLEAR WATCH and READ WATCH -/

theorem exec_clearWatch {s t : State} {b : Byte} {result : ResultCode} (hs : s.awaitsCode)
    (hclaim : s.claimClearWatch [b] = (t, ⟨result, []⟩)) :
    exec (.clearWatch [b]) s = .next (t.answering 0x31 [b] result []) :=
  exec_request rfl hs rfl hclaim

theorem exec_readWatch {s : State} {b : Byte} {result : ResultCode} {fields : List Byte}
    (hs : s.awaitsCode) (hclaim : s.claimReadWatch [b] = (s, ⟨result, fields⟩)) :
    exec (.readWatch [b]) s = .next (s.answering 0x32 [b] result fields) :=
  exec_request rfl hs rfl hclaim

theorem claimClearWatch_empty {s : State} {b : Byte} {i : Fin 16} (hb : i.val = b.toNat)
    (h : s.watch.entries[i] = none) : s.claimClearWatch [b] = (s, ⟨.notFound, []⟩) := by
  simp only [State.claimClearWatch, entryOfByte_of_val hb, h, Reply.only]

theorem claimClearWatch_filled {s : State} {b : Byte} {i : Fin 16} {w : Watch}
    (hb : i.val = b.toNat) (h : s.watch.entries[i] = some w) :
    s.claimClearWatch [b] = (s.setEntry i none, ⟨.ok, []⟩) := by
  simp only [State.claimClearWatch, entryOfByte_of_val hb, h, Reply.ok]

theorem claimClearWatch_range {s : State} {b : Byte} (hlow : 16 ≤ b.toNat) (hhigh : b.toNat ≤ 254) :
    s.claimClearWatch [b] = (s, ⟨.range, []⟩) := by
  have h255 : b ≠ 255 := by
    rintro rfl
    exact absurd hhigh (by decide)
  simp only [State.claimClearWatch, entryOfByte_of_ge hlow, h255, if_false, Reply.only]

/-- R143: 255 empties every entry, and no entry is left to assert a line. -/
theorem claimClearWatch_all (s : State) :
    s.claimClearWatch [255] =
      ({ s with watch := ⟨Vector.replicate 16 none, Vector.replicate 4 false⟩ }, ⟨.ok, []⟩) := by
  have hlines : WatchUnit.ofEntries (Vector.replicate 16 none) =
      ⟨Vector.replicate 16 none, Vector.replicate 4 false⟩ := by decide
  rw [← hlines]
  rfl

theorem claimReadWatch_empty {s : State} {b : Byte} {i : Fin 16} (hb : i.val = b.toNat)
    (h : s.watch.entries[i] = none) : s.claimReadWatch [b] = (s, ⟨.notFound, []⟩) := by
  simp only [State.claimReadWatch, entryOfByte_of_val hb, h, Reply.only]

theorem claimReadWatch_filled {s : State} {b : Byte} {i : Fin 16} {w : Watch}
    (hb : i.val = b.toNat) (h : s.watch.entries[i] = some w) :
    s.claimReadWatch [b] = (s, ⟨.ok, w.fields⟩) := by
  simp only [State.claimReadWatch, entryOfByte_of_val hb, h, Reply.ok]

theorem claimReadWatch_range {s : State} {b : Byte} (h : 16 ≤ b.toNat) :
    s.claimReadWatch [b] = (s, ⟨.range, []⟩) := by
  simp only [State.claimReadWatch, entryOfByte_of_ge h, Reply.only]

/-- Settles O20: what the byte names and what stands in the entry decide both requests. -/
theorem clearAndReadWatch : Obligations.ClearAndReadWatch := by
  intro s b i w hs
  refine ⟨?empty, ?filled, fun h => exec_readWatch hs (claimReadWatch_range h),
    fun hlow hhigh => exec_clearWatch hs (claimClearWatch_range hlow hhigh),
    exec_clearWatch hs (claimClearWatch_all s)⟩
  case empty =>
    intro hb hnone
    exact ⟨exec_clearWatch hs (claimClearWatch_empty hb hnone),
      exec_readWatch hs (claimReadWatch_empty hb hnone)⟩
  case filled =>
    intro hb hsome
    exact ⟨exec_readWatch hs (claimReadWatch_filled hb hsome), _,
      exec_clearWatch hs (claimClearWatch_filled hb hsome), rfl, rfl, ofEntries_lines_iff _⟩

end Sys2Proof.Machine
end

section
/-! PROOF. Event arrivals: what an arrival stores (R155), what it counts in an EVENTS_LOST record (R156),
and how many events a queue stands for after it (R94). -/

namespace Sys2Proof.Machine

/-! ### What an arrival accounts for (R94, R155, R156) -/

theorem value_eq_allOnes_iff (v : CellValue) : v = BitVec.allOnes 40 ↔ v.toNat = 2 ^ 40 - 1 := by
  rw [← BitVec.toNat_inj, BitVec.toNat_allOnes]

theorem extra_eq_255_iff (x : Byte) : x = 255 ↔ x.toNat = 255 := BitVec.toNat_inj.symm

/-- R156: both counts of an EVENTS_LOST record rise until they stand at their greatest values. -/
theorem fold_eq (r : EventRecord) :
    r.fold = { r with
      value := if r.value.toNat = 2 ^ 40 - 1 then r.value else r.value + 1
      extra := if r.extra.toNat = 255 then r.extra else r.extra + 1 } := by
  simp only [EventRecord.fold, value_eq_allOnes_iff, extra_eq_255_iff]

theorem fold_kind (r : EventRecord) : r.fold.kind = r.kind := rfl

theorem fold_value_toNat {r : EventRecord} (h : r.value.toNat < 2 ^ 40 - 1) :
    r.fold.value.toNat = r.value.toNat + 1 := by
  have hne : r.value.toNat ≠ 2 ^ 40 - 1 := h.ne
  rw [fold_eq]
  simp only [hne, if_false]
  bv_omega

theorem accountedFor_append (q r : List EventRecord) :
    accountedFor (q ++ r) = accountedFor q + accountedFor r := by
  simp [accountedFor]

theorem accountedFor_event {e : EventRecord} (h : e.kind ≠ .eventsLost) : accountedFor [e] = 1 := by
  simp [accountedFor, h]

theorem accountedFor_lostRecord {r : EventRecord} (h : r.kind = .eventsLost) :
    accountedFor [r] = r.value.toNat := by
  simp [accountedFor, h]

/-- R94: an arrival stands for one event more, unless the newest record's lost count is at its greatest
value. -/
theorem accountedFor_arrive {q : List EventRecord} {e : EventRecord} (he : e.kind ≠ .eventsLost)
    (hq : ∀ r ∈ q, r.kind = .eventsLost → r.value.toNat < 2 ^ 40 - 1) :
    accountedFor (arrive q e) = accountedFor q + 1 := by
  obtain ⟨-, h⟩ | ⟨-, newest, hlast, ⟨-, h⟩ | ⟨hk, h⟩⟩ := arrive_cases q e
  · rw [h, accountedFor_append, accountedFor_event he]
  · rw [h, accountedFor_append]
    rfl
  · have hsplit : q.dropLast ++ [newest] = q := List.dropLast_append_getLast? newest hlast
    have hcount := fold_value_toNat (hq newest (List.mem_of_getLast? hlast) hk)
    calc accountedFor (arrive q e)
        = accountedFor q.dropLast + (newest.value.toNat + 1) := by
          rw [h, accountedFor_append, accountedFor_lostRecord ((fold_kind newest).trans hk), hcount]
      _ = accountedFor (q.dropLast ++ [newest]) + 1 := by
          rw [accountedFor_append, accountedFor_lostRecord hk, Nat.add_assoc]
      _ = accountedFor q + 1 := by rw [hsplit]

/-- Settles O22: the three ways an arrival can go, and what each accounts for. -/
theorem arrivalIsStoredOrCounted : Obligations.ArrivalIsStoredOrCounted := by
  intro q e newest
  refine ⟨fun hlen => arrive_of_le_30 hlen e, fun hlen hlast hk => arrive_lost hlen.ge hlast hk e,
    fun hlen hlast hk => ?_, accountedFor_arrive⟩
  have h31 : 31 ≤ q.length := by omega
  rw [arrive_fold h31 hlast hk, fold_eq]

end Sys2Proof.Machine
end

section
/-! PROOF. The law of the event queue (R154): which operations let events arrive and which leave the
queue alone, block by block; the three things a command can do to the queue (arrivals, the removal of the
oldest record, a reset); and that each of the three keeps the law. -/

namespace Sys2Proof.Machine

/-! ### Arrivals -/

/-- R155: from one state to another the event queue changed by arrivals only. -/
def State.OnlyArrivals (s t : State) : Prop := ∃ list, t.events = arrived s.events list

theorem State.OnlyArrivals.of_events {s t : State} (h : t.events = s.events) : s.OnlyArrivals t :=
  ⟨[], h⟩

theorem State.OnlyArrivals.of_arrive {s t : State} {e : EventRecord}
    (h : t.events = arrive s.events e) : s.OnlyArrivals t :=
  ⟨[e], h⟩

theorem State.OnlyArrivals.refl (s : State) : s.OnlyArrivals s := .of_events rfl

theorem State.OnlyArrivals.trans {s t u : State} (hst : s.OnlyArrivals t) (htu : t.OnlyArrivals u) :
    s.OnlyArrivals u := by
  obtain ⟨first, hfirst⟩ := hst
  obtain ⟨second, hsecond⟩ := htu
  exact ⟨first ++ second, by rw [hsecond, hfirst, arrived_append]⟩

/-- An update that leaves the queue alone may follow. -/
theorem State.OnlyArrivals.keeping {s t u : State} (hst : s.OnlyArrivals t)
    (h : u.events = t.events) : s.OnlyArrivals u :=
  hst.trans (.of_events h)

/-- An update that leaves the queue alone may come first. -/
theorem State.OnlyArrivals.after {s t u : State} (htu : t.OnlyArrivals u)
    (h : t.events = s.events) : s.OnlyArrivals u :=
  (State.OnlyArrivals.of_events h).trans htu

theorem foldl_onlyArrivals {α : Type} {f : State → α → State}
    (hf : ∀ (s : State) (a : α), s.OnlyArrivals (f s a)) (list : List α) (s : State) :
    s.OnlyArrivals (list.foldl f s) := by
  induction list generalizing s with
  | nil => exact .refl s
  | cons a list ih => exact (hf s a).trans (ih (f s a))

/-! ### The view, the timer and changes of the station state -/

@[simp] theorem setView_events (s : State) (v : StationSet) : (s.setView v).events = s.events := by
  rw [setView_eq]

@[simp] theorem correctTimer_events (s : State) : s.correctTimer.events = s.events := by
  unfold State.correctTimer
  split <;> rfl

theorem foreignHeard_onlyArrivals (s : State) (n : Nat) (tag : Byte) :
    s.OnlyArrivals (s.foreignHeard n tag) := by
  unfold State.foreignHeard
  dsimp only
  split
  · exact .of_events rfl
  · exact .of_arrive rfl

theorem changeState_onlyArrivals (s : State) (new : StationState) (cause : ChangeCause) :
    s.OnlyArrivals (s.changeState new cause) := .of_arrive rfl

theorem enterListen_onlyArrivals (s : State) (cause : ChangeCause) :
    s.OnlyArrivals (s.enterListen cause) := .of_arrive rfl

theorem enterStandby_onlyArrivals (s : State) : s.OnlyArrivals s.enterStandby := .of_arrive rfl

theorem enterHalted_onlyArrivals (s : State) : s.OnlyArrivals s.enterHalted := .of_arrive rfl

theorem failToListen_onlyArrivals (s : State) (cause : ChangeCause) :
    s.OnlyArrivals (s.failToListen cause) := by
  unfold State.failToListen
  dsimp only
  split
  · exact (enterHalted_onlyArrivals _).after rfl
  · exact (enterListen_onlyArrivals _ cause).after rfl

theorem failToJoining_onlyArrivals (s : State) (cause : ChangeCause) :
    s.OnlyArrivals (s.failToJoining cause) := by
  unfold State.failToJoining
  dsimp only
  split
  · exact (enterHalted_onlyArrivals _).after rfl
  · exact (changeState_onlyArrivals _ .joining cause).after rfl

theorem honourLeave_onlyArrivals (s : State) : s.OnlyArrivals s.honourLeave := by
  unfold State.honourLeave
  split
  · exact enterStandby_onlyArrivals s
  · exact .refl s

/-! ### Watches and contributions -/

theorem retestWatch_onlyArrivals (s : State) (i : Fin 16) (w : Watch) :
    s.OnlyArrivals (s.retestWatch i w) := by
  unfold State.retestWatch
  dsimp only
  split
  · exact .refl s
  · exact .of_arrive rfl

theorem evaluateEntry_onlyArrivals (cell : Fin 32) (kind : ContributionKind) (origin : Nat)
    (s : State) (i : Fin 16) : s.OnlyArrivals (State.evaluateEntry cell kind origin s i) := by
  unfold State.evaluateEntry
  split
  · exact .refl s
  · next w hw =>
    split
    · exact .refl s
    · split
      · exact .of_arrive rfl
      · exact retestWatch_onlyArrivals s i w

theorem evaluateWatches_onlyArrivals (s : State) (cell : Fin 32) (kind : ContributionKind)
    (origin : Nat) : s.OnlyArrivals (s.evaluateWatches cell kind origin) := by
  unfold State.evaluateWatches
  split
  · exact foldl_onlyArrivals (evaluateEntry_onlyArrivals cell kind origin) _ s
  · exact .refl s

theorem reevaluateEntry_onlyArrivals (s : State) (i : Fin 16) :
    s.OnlyArrivals (s.reevaluateEntry i) := by
  unfold State.reevaluateEntry
  split
  · exact .refl s
  · next w hw =>
    split
    · exact .refl s
    · exact retestWatch_onlyArrivals s i w

theorem reevaluateWatches_onlyArrivals (s : State) : s.OnlyArrivals s.reevaluateWatches :=
  foldl_onlyArrivals reevaluateEntry_onlyArrivals _ s

theorem applyToCell_onlyArrivals (s : State) (origin : Nat) (c : Contribution) :
    s.OnlyArrivals (s.applyToCell origin c) :=
  (evaluateWatches_onlyArrivals _ c.cell c.kind origin).after (State.setCell_events s _ _)

theorem applyContribution_onlyArrivals (origin : Nat) (s : State) (c : Contribution) :
    s.OnlyArrivals (State.applyContribution origin s c) :=
  (applyToCell_onlyArrivals s origin c).keeping rfl

theorem applyOwn_onlyArrivals (origin : Nat) (s : State) (c : Contribution) :
    s.OnlyArrivals (State.applyOwn origin s c) :=
  (applyContribution_onlyArrivals origin s c).keeping rfl

theorem followContribution_onlyArrivals (origin : Nat) (s : State) (c : Contribution) :
    s.OnlyArrivals (State.followContribution origin s c) := by
  unfold State.followContribution
  split
  · exact (applyToCell_onlyArrivals s origin c).keeping rfl
  · exact .of_events rfl

theorem followContributions_onlyArrivals (s : State) (f : TallyFrame) :
    s.OnlyArrivals (s.followContributions f) :=
  foldl_onlyArrivals (followContribution_onlyArrivals f.sender) _ s

/-! ### Posts -/

theorem settlePosts_onlyArrivals (s : State) : s.OnlyArrivals s.settlePosts :=
  ⟨_, congrArg State.events (settlePosts_eq s)⟩

theorem doubtPosts_onlyArrivals (s : State) : s.OnlyArrivals s.doubtPosts :=
  ⟨_, congrArg State.events (doubtPosts_eq s)⟩

/-! ### The donor -/

@[simp] theorem joinRequest_events (s : State) (n : Nat) : (s.joinRequest n).events = s.events := by
  rw [joinRequest_eq]

@[simp] theorem takeVerdict_events (s : State) (n : Nat) (v : Verdict) :
    (s.takeVerdict n v).events = s.events := by
  rw [takeVerdict_eq]

@[simp] theorem serviceAfterAdding_events (s : State) (n : Nat) :
    (s.serviceAfterAdding n).events = s.events := by
  unfold State.serviceAfterAdding
  split
  · split <;> rfl
  · rfl

@[simp] theorem startService_events (s : State) : s.startService.1.events = s.events := by
  unfold State.startService
  split <;> rfl

theorem abandon_onlyArrivals (s : State) (sv : Serving) (reason : Nat) :
    s.OnlyArrivals (s.abandon sv reason).1 := .of_arrive (startService_events _)

theorem donorDecision_onlyArrivals (s : State) : s.OnlyArrivals s.donorDecision.1 := by
  unfold State.donorDecision
  split
  · split
    · exact .of_events (startService_events s)
    · next sv hsv =>
      split
      · exact .of_events rfl
      · next e he =>
        split
        · exact .of_events rfl
        · split
          · exact .of_events rfl
          · exact abandon_onlyArrivals s sv 3
      · exact abandon_onlyArrivals s sv 1
      · exact abandon_onlyArrivals s sv 1
      · exact abandon_onlyArrivals s sv 2
      · exact abandon_onlyArrivals s sv 4
  · exact .refl s

/-! ### The joiner -/

theorem beginTransfer_onlyArrivals (s : State) (f : TallyFrame) (x : TransferSection) :
    s.OnlyArrivals (s.beginTransfer f x) :=
  (followContributions_onlyArrivals _ f).after rfl

theorem abortTransfer_onlyArrivals (s : State) : s.OnlyArrivals s.abortTransfer :=
  (failToJoining_onlyArrivals _ .transferAbort).after rfl

theorem foreignHeard_abortTransfer_onlyArrivals (s : State) (n : Nat) (tag : Byte) :
    s.OnlyArrivals (s.foreignHeard n tag).abortTransfer :=
  (foreignHeard_onlyArrivals s n tag).trans (abortTransfer_onlyArrivals _)

theorem admission_onlyArrivals (s : State) (r : Receiving) : s.OnlyArrivals (s.admission r) := by
  have hview : ((s.setReceiving none).setView
      (stationAdd r.followed (s.setReceiving none).stationNumber)).clearCounts.events = s.events :=
    setView_events (s.setReceiving none) _
  exact ((changeState_onlyArrivals _ .member .admitted).after hview).trans
    (reevaluateWatches_onlyArrivals _)

theorem acceptDonorFrame_onlyArrivals (s : State) (r : Receiving) (f : TallyFrame)
    (x : TransferSection) : s.OnlyArrivals (s.acceptDonorFrame r f x) := by
  unfold State.acceptDonorFrame
  dsimp only
  refine State.OnlyArrivals.keeping ?_ (correctTimer_events _)
  have hfollowed : s.OnlyArrivals
      (((s.installCells x).setReceiving (some { r with next := r.next + 4 })).followContributions f) :=
    (followContributions_onlyArrivals _ f).after rfl
  split
  · exact hfollowed.trans (admission_onlyArrivals _ _)
  · exact hfollowed

theorem donorSlot_onlyArrivals (s : State) (r : Receiving) (v : Verdict) :
    s.OnlyArrivals (s.donorSlot r v) := by
  unfold State.donorSlot
  split
  · next f =>
    split
    · split
      · next x hx =>
        split
        · exact acceptDonorFrame_onlyArrivals s r f x
        · exact abortTransfer_onlyArrivals s
      · exact abortTransfer_onlyArrivals s
    · exact abortTransfer_onlyArrivals s
  · exact abortTransfer_onlyArrivals s
  · next f => exact foreignHeard_abortTransfer_onlyArrivals s _ f.tag
  · exact abortTransfer_onlyArrivals s
  · exact abortTransfer_onlyArrivals s

theorem followedSlot_onlyArrivals (s : State) (r : Receiving) (v : Verdict) :
    s.OnlyArrivals (s.followedSlot r v) := by
  unfold State.followedSlot
  split
  · next f =>
    split
    · exact (followContributions_onlyArrivals s f).keeping (correctTimer_events _)
    · exact abortTransfer_onlyArrivals s
  · exact .of_events rfl
  · exact .of_events rfl
  · next f => exact foreignHeard_abortTransfer_onlyArrivals s _ f.tag
  · exact abortTransfer_onlyArrivals s

theorem outsideSlot_onlyArrivals (s : State) (v : Verdict) : s.OnlyArrivals (s.outsideSlot v) := by
  unfold State.outsideSlot
  split
  · split
    · exact .of_events (correctTimer_events s)
    · exact .refl s
  · exact .refl s
  · next f => exact foreignHeard_onlyArrivals s _ f.tag
  · exact .refl s
  · exact .refl s

/-! ### The slot ends of a member -/

theorem admitJoiner_onlyArrivals (s : State) (joiner : Nat) :
    s.OnlyArrivals (s.admitJoiner joiner) := by
  unfold State.admitJoiner
  split
  · exact .of_events rfl
  · exact (State.OnlyArrivals.of_arrive (State.queueEvent_events _ _)).after (by simp)

theorem actOnAdmit_onlyArrivals (s : State) (f : TallyFrame) : s.OnlyArrivals (s.actOnAdmit f) := by
  unfold State.actOnAdmit
  split
  · next x hx =>
    split
    · exact admitJoiner_onlyArrivals s x.joiner
    · exact .refl s
  · exact .refl s

theorem actOnFarewell_onlyArrivals (s : State) (f : TallyFrame) :
    s.OnlyArrivals (s.actOnFarewell f) := by
  unfold State.actOnFarewell
  split
  · exact (State.OnlyArrivals.of_arrive (State.queueEvent_events _ _)).after (setView_events s _)
  · exact .refl s

theorem acceptFrame_onlyArrivals (s : State) (f : TallyFrame) : s.OnlyArrivals (s.acceptFrame f) := by
  have happlied : s.OnlyArrivals
      (f.contributions.foldl (State.applyContribution f.sender) s).countAgree :=
    (foldl_onlyArrivals (applyContribution_onlyArrivals f.sender) _ s).keeping rfl
  exact ((happlied.trans (actOnAdmit_onlyArrivals _ f)).trans
    (actOnFarewell_onlyArrivals _ f)).keeping (correctTimer_events _)

theorem exclude_onlyArrivals (s : State) (cause : ChangeCause) : s.OnlyArrivals (s.exclude cause) := by
  have hdoubted : s.OnlyArrivals (s.setView 0).doubtPosts :=
    (doubtPosts_onlyArrivals _).after (setView_events s 0)
  have hlatched : s.OnlyArrivals
      (s.setView 0).doubtPosts.emptyDonor.clearCounts.latchExcluded := hdoubted.keeping rfl
  exact (hlatched.trans (failToListen_onlyArrivals _ cause)).trans (honourLeave_onlyArrivals _)

theorem dropPeer_onlyArrivals (s : State) (m reason badReason : Nat) :
    s.OnlyArrivals (s.dropPeer m reason badReason) :=
  (State.OnlyArrivals.of_arrive (State.queueEvent_events _ _)).after (setView_events s _)

theorem memberSlot_onlyArrivals (s : State) (m : Nat) (v : Verdict) :
    s.OnlyArrivals (s.memberSlot m v) := by
  have hdissent : ∀ reason badReason, s.OnlyArrivals (s.countDissent.dropPeer m reason badReason) :=
    fun reason badReason => (dropPeer_onlyArrivals _ m reason badReason).after rfl
  unfold State.memberSlot
  split
  · exact dropPeer_onlyArrivals s m 1 0
  · exact hdissent 2 _
  · next f =>
    split
    · exact acceptFrame_onlyArrivals s f
    · exact hdissent 3 0
  · exact (dropPeer_onlyArrivals s m 4 0).keeping (joinRequest_events _ m)
  · exact hdissent 3 0

theorem noteNonMember_onlyArrivals (s : State) (n : Nat) (v : Verdict) :
    s.OnlyArrivals (s.noteNonMember n v) := by
  obtain ⟨y, rfl⟩ | ⟨g, rfl⟩ | hsame := noteNonMember_cases n v
  · exact .of_arrive rfl
  · exact noteNonMember_foreign s n g ▸ foreignHeard_onlyArrivals s n g.tag
  · exact .of_events (congrArg State.events (hsame s))

theorem nonMemberSlot_onlyArrivals (s : State) (n : Nat) (v : Verdict) :
    s.OnlyArrivals (s.nonMemberSlot n v) :=
  (noteNonMember_onlyArrivals s n v).keeping (takeVerdict_events _ n v)

theorem ownFrameIntact_onlyArrivals (s : State) (f : TallyFrame) :
    s.OnlyArrivals (s.ownFrameIntact f) := by
  have hacted : s.OnlyArrivals
      ((f.contributions.foldl (State.applyOwn f.sender) s).actOnAdmit f) :=
    (foldl_onlyArrivals (applyOwn_onlyArrivals f.sender) _ s).trans (actOnAdmit_onlyArrivals _ f)
  unfold State.ownFrameIntact
  dsimp only
  split
  · exact hacted.trans ((enterStandby_onlyArrivals _).after (setView_events _ 0))
  · exact hacted

theorem ownSlotEnd_onlyArrivals (s : State) (v : Verdict) : s.OnlyArrivals (s.ownSlotEnd v) := by
  unfold State.ownSlotEnd
  split
  · exact .refl s
  · split
    · next f hf => exact ownFrameIntact_onlyArrivals s f
    · exact .refl s
    · exact exclude_onlyArrivals s .loopback

theorem judgeMember_onlyArrivals (s : State) (v : Verdict) : s.OnlyArrivals (s.judgeMember v) := by
  unfold State.judgeMember
  dsimp only
  split
  · exact ownSlotEnd_onlyArrivals s v
  · split
    · exact memberSlot_onlyArrivals s _ v
    · exact nonMemberSlot_onlyArrivals s _ v

/-! ### The own slot -/

theorem buildTally_onlyArrivals (s : State) : s.OnlyArrivals s.buildTally :=
  (donorDecision_onlyArrivals s).keeping rfl

@[simp] theorem clearFailures_events (s : State) (founder : Bool) :
    (s.clearFailures founder).events = s.events := by
  unfold State.clearFailures
  split <;> rfl

theorem keepInView_onlyArrivals (s : State) (founder : Bool) :
    s.OnlyArrivals (s.keepInView founder) := by
  have hsettled : s.OnlyArrivals (s.settlePosts.clearCounts.clearFailures founder) :=
    (settlePosts_onlyArrivals s).keeping (clearFailures_events _ founder)
  unfold State.keepInView
  dsimp only
  split
  · exact hsettled.keeping rfl
  · exact hsettled.trans (buildTally_onlyArrivals _)

theorem ownSlotEvaluation_onlyArrivals (s : State) (founder : Bool) :
    s.OnlyArrivals (s.ownSlotEvaluation founder) := by
  unfold State.ownSlotEvaluation
  split
  · exact exclude_onlyArrivals s .excluded
  · exact keepInView_onlyArrivals s founder

theorem joiningStep_onlyArrivals (s : State) : s.OnlyArrivals s.joiningStep := by
  unfold State.joiningStep
  split
  · exact .of_events rfl
  · exact failToListen_onlyArrivals s .joinTimeout

theorem leaveListen_onlyArrivals (s : State) : s.OnlyArrivals s.leaveListen :=
  ((changeState_onlyArrivals _ .joining .synchronised).after rfl).trans
    ((joiningStep_onlyArrivals _).after rfl)

@[simp] theorem receivingStep_events (s : State) : s.receivingStep.events = s.events := by
  unfold State.receivingStep
  split <;> rfl

theorem ownSlotStart_onlyArrivals (s : State) : s.OnlyArrivals s.ownSlotStart := by
  unfold State.ownSlotStart
  split
  · split
    · exact leaveListen_onlyArrivals s
    · exact .refl s
  · exact joiningStep_onlyArrivals s
  · exact .of_events (receivingStep_events s)
  · exact ownSlotEvaluation_onlyArrivals s false
  all_goals exact .refl s

/-! ### The slot ends outside MEMBER -/

theorem judgeListen_onlyArrivals (s : State) (v : Verdict) : s.OnlyArrivals (s.judgeListen v) := by
  unfold State.judgeListen
  dsimp only
  split
  · split
    · exact .of_events (correctTimer_events _)
    · exact .of_events (correctTimer_events _)
  · next f => exact (foreignHeard_onlyArrivals _ _ f.tag).after rfl
  · exact .of_events rfl
  · exact .of_events rfl

theorem ownJoinEnd_onlyArrivals (s : State) (v : Verdict) : s.OnlyArrivals (s.ownJoinEnd v) := by
  unfold State.ownJoinEnd
  split
  · exact .refl s
  · split
    · exact .refl s
    · exact (failToListen_onlyArrivals _ .loopback).after rfl

theorem transferBegun_onlyArrivals (s : State) (f : TallyFrame) (x : TransferSection) :
    s.OnlyArrivals (s.transferBegun f x) := by
  unfold State.transferBegun
  refine State.OnlyArrivals.keeping ?_ (correctTimer_events _)
  exact (changeState_onlyArrivals s .receiving .transferBegun).trans
    ((beginTransfer_onlyArrivals _ f x).after rfl)

theorem joiningTally_onlyArrivals (s : State) (f : TallyFrame) :
    s.OnlyArrivals (s.joiningTally f) := by
  have haccepted : s.OnlyArrivals (if f.round = s.bus.round then s.correctTimer else s) := by
    split
    · exact .of_events (correctTimer_events s)
    · exact .refl s
  unfold State.joiningTally
  dsimp only
  split
  · next x hx =>
    split
    · split
      · exact transferBegun_onlyArrivals s f x
      · exact .of_events (correctTimer_events s)
    · exact haccepted
  · exact haccepted

theorem judgeJoining_onlyArrivals (s : State) (v : Verdict) :
    s.OnlyArrivals (s.judgeJoining v) := by
  unfold State.judgeJoining
  split
  · next f => exact joiningTally_onlyArrivals s f
  · split
    · exact .of_events (correctTimer_events s)
    · exact .refl s
  · next f => exact foreignHeard_onlyArrivals s _ f.tag
  · exact .refl s
  · exact .refl s

theorem judgeReceiving_onlyArrivals (s : State) (v : Verdict) :
    s.OnlyArrivals (s.judgeReceiving v) := by
  unfold State.judgeReceiving
  split
  · exact .refl s
  · next r hr =>
    split
    · exact donorSlot_onlyArrivals s r v
    · split
      · exact followedSlot_onlyArrivals s r v
      · exact outsideSlot_onlyArrivals s v

theorem judgeSlot_onlyArrivals (s : State) (v : Verdict) : s.OnlyArrivals (s.judgeSlot v) := by
  unfold State.judgeSlot
  split
  · exact judgeListen_onlyArrivals s v
  · split
    · exact ownJoinEnd_onlyArrivals s v
    · exact judgeJoining_onlyArrivals s v
  · split
    · exact ownJoinEnd_onlyArrivals s v
    · exact judgeReceiving_onlyArrivals s v
  · exact judgeMember_onlyArrivals s v
  all_goals exact .refl s

theorem unsynchronisedFrame_onlyArrivals (s : State) (v : Verdict) (age : Nat) :
    s.OnlyArrivals (s.unsynchronisedFrame v age) := by
  unfold State.unsynchronisedFrame
  split
  · exact .of_events rfl
  · exact .refl s
  · next f => exact foreignHeard_onlyArrivals s f.sender f.tag
  · exact .refl s
  · exact .refl s

theorem found_onlyArrivals (s : State) : s.OnlyArrivals s.found := by
  unfold State.found
  refine State.OnlyArrivals.trans ?_ (ownSlotEvaluation_onlyArrivals _ true)
  refine State.OnlyArrivals.trans ?_ (reevaluateWatches_onlyArrivals _)
  exact .of_arrive (setView_events _ _)

/-! ### The line and the slot boundary -/

theorem endRun_onlyArrivals (s : State) : s.OnlyArrivals s.endRun := by
  unfold State.endRun
  split
  · exact .refl s
  · dsimp only
    split
    · split
      · exact .of_events rfl
      · exact (unsynchronisedFrame_onlyArrivals _ _ _).after rfl
    · exact .of_events rfl

theorem endRunIfOver_onlyArrivals (s : State) : s.OnlyArrivals s.endRunIfOver := by
  unfold State.endRunIfOver
  split
  · exact endRun_onlyArrivals s
  · exact .refl s

@[simp] theorem storeCharacter_events (s : State) (count : Nat) (b : Byte) :
    (s.storeCharacter count b).events = s.events := by
  unfold State.storeCharacter
  split <;> rfl

@[simp] theorem captureCharacter_events (s : State) (b : Byte) :
    (s.captureCharacter b).events = s.events := by
  rw [captureCharacter_eq]

@[simp] theorem beginRun_events (s : State) (samples : BitVec 10) :
    (s.beginRun samples).events = s.events := by
  unfold State.beginRun
  split
  · split
    · dsimp only
      split
      · exact storeCharacter_events _ _ _
      · rfl
    all_goals rfl
  · exact storeCharacter_events _ _ _

@[simp] theorem extendRun_events (s : State) (r : Run) (samples : BitVec 10) :
    (s.extendRun r samples).events = s.events := by
  unfold State.extendRun
  dsimp only
  split
  · exact storeCharacter_events _ _ _
  · rfl

@[simp] theorem reportActivity_events (s : State) : s.reportActivity.events = s.events := by
  unfold State.reportActivity
  split <;> rfl

@[simp] theorem startCharacter_events (s : State) (samples : BitVec 10) :
    (s.startCharacter samples).events = s.events := by
  unfold State.startCharacter
  dsimp only
  rw [captureCharacter_events]
  split
  · rw [extendRun_events, reportActivity_events]
  · rw [beginRun_events, reportActivity_events]

theorem fallOnRxd_onlyArrivals (s : State) (gap : Nat) (fall : RxdFall) :
    s.OnlyArrivals (s.fallOnRxd gap fall) := by
  unfold State.fallOnRxd
  dsimp only
  split
  · split
    · refine State.OnlyArrivals.keeping ?_ (startCharacter_events _ _)
      exact ((endRunIfOver_onlyArrivals (s.passTime _)).after rfl).keeping rfl
    · exact .of_events rfl
  · exact .of_events rfl

theorem runOver_onlyArrivals (s : State) (gap : Nat) : s.OnlyArrivals (s.runOver gap) := by
  unfold State.runOver
  split
  · exact .refl s
  · exact (endRun_onlyArrivals _).after rfl

theorem finishTransmission_onlyArrivals (s : State) : s.OnlyArrivals s.finishTransmission := by
  unfold State.finishTransmission
  dsimp only
  split
  · exact (enterStandby_onlyArrivals _).after rfl
  · exact .of_events rfl

theorem signalOwnSlot_onlyArrivals (s : State) : s.OnlyArrivals s.signalOwnSlot := by
  unfold State.signalOwnSlot
  split
  · exact ownSlotStart_onlyArrivals s
  · exact .refl s

@[simp] theorem numbersOnLeaving_events (s : State) : s.numbersOnLeaving.events = s.events := by
  unfold State.numbersOnLeaving
  split <;> rfl

theorem slotBoundary_onlyArrivals (s : State) : s.OnlyArrivals s.slotBoundary := by
  have hjudged := judgeSlot_onlyArrivals s s.slotVerdict
  unfold State.slotBoundary
  dsimp only
  split
  · exact hjudged.trans ((signalOwnSlot_onlyArrivals _).after rfl)
  · exact hjudged.keeping (numbersOnLeaving_events _)

theorem endSlot_onlyArrivals (s : State) : s.OnlyArrivals s.endSlot := by
  have hfinished : s.OnlyArrivals (if s.bus.tx = .sending then s.finishTransmission else s) := by
    split
    · exact finishTransmission_onlyArrivals s
    · exact .refl s
  unfold State.endSlot
  dsimp only
  generalize (if s.bus.tx = .sending then s.finishTransmission else s) = finished at hfinished ⊢
  split
  · exact (hfinished.trans ((endRunIfOver_onlyArrivals (finished.passTo _)).after rfl)).trans
      (slotBoundary_onlyArrivals _)
  · exact hfinished

/-! ### Requests -/

theorem claimConfigure_onlyArrivals (s : State) (params : List Byte) :
    s.OnlyArrivals (s.claimConfigure params).1 := by
  unfold State.claimConfigure
  split
  · exact .of_arrive rfl
  all_goals exact .of_events rfl

theorem claimStart_onlyArrivals (s : State) : s.OnlyArrivals s.claimStart.1 := by
  unfold State.claimStart
  split
  · exact .of_arrive rfl
  · exact .refl s

theorem leaveJoiner_onlyArrivals (s : State) : s.OnlyArrivals s.leaveJoiner := by
  unfold State.leaveJoiner
  split
  · exact .of_events rfl
  · exact enterStandby_onlyArrivals s

theorem claimLeave_onlyArrivals (s : State) : s.OnlyArrivals s.claimLeave.1 := by
  unfold State.claimLeave
  split
  · exact .of_events rfl
  · exact enterStandby_onlyArrivals s
  · exact leaveJoiner_onlyArrivals s
  · exact leaveJoiner_onlyArrivals s
  all_goals exact .refl s

@[simp] theorem claimPost_events (s : State) (params : List Byte) :
    (s.claimPost params).1.events = s.events := by
  unfold State.claimPost
  split
  · split
    · rfl
    · split
      · split <;> rfl
      · rfl
  · rfl

@[simp] theorem claimCancel_events (s : State) (params : List Byte) :
    (s.claimCancel params).1.events = s.events := by
  unfold State.claimCancel
  split
  · split
    · split <;> rfl
    · rfl
  · rfl

@[simp] theorem claimQueryPost_events (s : State) (params : List Byte) :
    (s.claimQueryPost params).1.events = s.events := by
  unfold State.claimQueryPost
  split
  · split
    · split <;> rfl
    · rfl
  · rfl

@[simp] theorem claimReadCell_events (s : State) (params : List Byte) :
    (s.claimReadCell params).1.events = s.events := by
  unfold State.claimReadCell
  split
  · split <;> rfl
  · rfl

theorem fillEntry_onlyArrivals (s : State) (i : Fin 16) (w : Watch) :
    s.OnlyArrivals (s.fillEntry i w).1 := by
  unfold State.fillEntry
  dsimp only
  split
  · exact .of_arrive rfl
  · exact .of_events rfl

theorem setWatchChecked_onlyArrivals (s : State) (cell : Fin 32) (condition : WatchCondition)
    (threshold : CellValue) (line : Option (Fin 4)) :
    s.OnlyArrivals (s.setWatchChecked cell condition threshold line).1 := by
  unfold State.setWatchChecked
  dsimp only
  split
  · exact .refl s
  · split
    · exact .refl s
    · split
      · exact fillEntry_onlyArrivals s _ _
      · exact .refl s

theorem claimSetWatch_onlyArrivals (s : State) (params : List Byte) :
    s.OnlyArrivals (s.claimSetWatch params).1 := by
  unfold State.claimSetWatch
  split
  · split
    · exact .refl s
    · split
      · exact setWatchChecked_onlyArrivals s _ _ _ _
      · exact .refl s
  · exact .refl s

@[simp] theorem claimClearWatch_events (s : State) (params : List Byte) :
    (s.claimClearWatch params).1.events = s.events := by
  unfold State.claimClearWatch
  split
  · split
    · split <;> rfl
    · split <;> rfl
  · rfl

@[simp] theorem claimReadWatch_events (s : State) (params : List Byte) :
    (s.claimReadWatch params).1.events = s.events := by
  unfold State.claimReadWatch
  split
  · split
    · split <;> rfl
    · rfl
  · rfl

@[simp] theorem claimTakeEvent_events (s : State) : s.claimTakeEvent.1.events = s.events := by
  unfold State.claimTakeEvent
  split <;> rfl

theorem claim_onlyArrivals (s : State) (code : Byte) (params : List Byte) :
    s.OnlyArrivals (s.claim code params).1 := by
  unfold State.claim
  split
  · exact .of_events rfl
  · exact claimConfigure_onlyArrivals s params
  · exact claimStart_onlyArrivals s
  · exact claimLeave_onlyArrivals s
  · exact .of_events rfl
  · exact .of_events (claimPost_events s params)
  · exact .of_events (claimCancel_events s params)
  · exact .of_events (claimQueryPost_events s params)
  · exact .of_events (claimReadCell_events s params)
  · exact claimSetWatch_onlyArrivals s params
  · exact .of_events (claimClearWatch_events s params)
  · exact .of_events (claimReadWatch_events s params)
  · exact .of_events (claimTakeEvent_events s)
  · exact .refl s

theorem gather_onlyArrivals (s : State) (code : Byte) (received : List Byte) :
    s.OnlyArrivals (s.gather code received) := by
  unfold State.gather
  dsimp only
  split
  · exact (claim_onlyArrivals s code _).keeping rfl
  · exact .of_events rfl

theorem shiftRequest_onlyArrivals (s : State) (code : Byte) (params : List Byte) :
    s.OnlyArrivals (s.shiftRequest code params) := by
  unfold State.shiftRequest
  split
  · exact gather_onlyArrivals s code params
  · exact gather_onlyArrivals s _ _
  · exact .refl s
  · exact .refl s

/-! ### What a command does to the queue -/

/-- R155, R157, R176: the three things a command can do to the event queue: let events arrive, take the
oldest record away, or empty the queue before the arrivals of a reset. -/
inductive QueueMove (q r : List EventRecord) : Prop
  | arrivals (h : ∃ list, r = arrived q list)
  | removal (h : r = q.tail)
  | reset (list : List EventRecord) (h : r = arrived [] list)

theorem QueueMove.of_eq {q r : List EventRecord} (h : r = q) : QueueMove q r := .arrivals ⟨[], h⟩

theorem selectEnd_queueMove (s : State) :
    ∃ t, exec .selectEnd s = .next t ∧ QueueMove s.events t.events := by
  refine ⟨_, rfl, ?_⟩
  split
  · exact .of_eq rfl
  · split
    · exact .reset [_] rfl
    · exact .of_eq rfl

theorem eventRemoval_queueMove (s : State) :
    ∃ t, exec .eventRemoval s = .next t ∧ QueueMove s.events t.events := by
  refine ⟨_, rfl, ?_⟩
  split
  · split
    · exact .removal rfl
    · exact .of_eq rfl
  all_goals exact .of_eq rfl

theorem selectStart_events (s : State) :
    ∃ t, exec .selectStart s = .next t ∧ t.events = s.events := by
  refine ⟨_, rfl, ?_⟩
  split
  · rfl
  · split <;> rfl

theorem latchClear_events (s : State) :
    ∃ t, exec .latchClear s = .next t ∧ t.events = s.events := by
  refine ⟨_, rfl, ?_⟩
  split
  · split <;> rfl
  all_goals rfl

theorem request_onlyArrivals {i : Instr} {code : Byte} {params : List Byte}
    (hi : requestOf i = some (code, params)) (s : State) :
    ∃ t, exec i s = .next t ∧ s.OnlyArrivals t :=
  ⟨_, exec_eq_shiftRequest hi s, shiftRequest_onlyArrivals s code params⟩

/-- R24 to R37, R103: a command of the bus side only lets events arrive. -/
theorem busSide_onlyArrivals {i : Instr} (hi : onBusSide i = true) (s : State) :
    ∃ t, exec i s = .next t ∧ s.OnlyArrivals t := by
  cases i with
  | busActivity gap fall => exact ⟨_, rfl, fallOnRxd_onlyArrivals s gap fall⟩
  | runEnd gap =>
    refine ⟨_, rfl, ?_⟩
    split
    · exact runOver_onlyArrivals s gap
    · exact .refl s
  | slotEnd =>
    refine ⟨_, rfl, ?_⟩
    split
    · exact endSlot_onlyArrivals s
    · exact .refl s
  | ownTransmissionStart =>
    refine ⟨_, rfl, ?_⟩
    split <;> exact .of_events rfl
  | transmissionEnd =>
    refine ⟨_, rfl, ?_⟩
    split
    · exact finishTransmission_onlyArrivals s
    · exact .refl s
  | listenTimerExpiry =>
    refine ⟨_, rfl, ?_⟩
    split
    · exact (found_onlyArrivals _).after rfl
    · exact .refl s
  | _ => cases hi

/-- Every command has a next state, and moves the queue in one of the three ways. -/
theorem exec_queueMove (i : Instr) (s : State) :
    ∃ t, exec i s = .next t ∧ QueueMove s.events t.events := by
  cases hrequest : requestOf i with
  | some request =>
    obtain ⟨t, ht, harrivals⟩ := request_onlyArrivals hrequest s
    exact ⟨t, ht, .arrivals harrivals⟩
  | none =>
    cases hbus : onBusSide i with
    | true =>
      obtain ⟨t, ht, harrivals⟩ := busSide_onlyArrivals hbus s
      exact ⟨t, ht, .arrivals harrivals⟩
    | false =>
      cases i with
      | powerOn => exact ⟨_, rfl, .reset [] rfl⟩
      | resetnAssert => exact ⟨_, rfl, .reset [] rfl⟩
      | resetnRelease => exact ⟨_, rfl, .of_eq rfl⟩
      | selectStart =>
        obtain ⟨t, ht, hevents⟩ := selectStart_events s
        exact ⟨t, ht, .of_eq hevents⟩
      | selectEnd => exact selectEnd_queueMove s
      | latchClear =>
        obtain ⟨t, ht, hevents⟩ := latchClear_events s
        exact ⟨t, ht, .of_eq hevents⟩
      | eventRemoval => exact eventRemoval_queueMove s
      | _ => simp [requestOf, onBusSide] at hrequest hbus

/-- A step that finds no command waiting lets time pass, and no event arrives. -/
theorem step_queueMove {s t : State} (h : step s = .next t) : QueueMove s.events t.events := by
  unfold step at h
  split at h
  · cases h
    exact .of_eq rfl
  · next c rest hpending =>
    obtain ⟨u, hu, hmove⟩ := exec_queueMove c { s with pending := rest }
    cases hu.symm.trans h
    exact hmove

/-! ### The law -/

/-- R154, of a queue alone. -/
def LawfulQueue (q : List EventRecord) : Prop :=
  q.length ≤ 32 ∧ (q.length = 32 → q.getLast?.map EventRecord.kind = some .eventsLost)

theorem eventLaw_iff (s : State) : s.EventLaw ↔ LawfulQueue s.events := Iff.rfl

theorem lawfulQueue_of_lt {q : List EventRecord} (h : q.length < 32) : LawfulQueue q :=
  ⟨h.le, fun h32 => absurd h32 h.ne⟩

/-- R155, R156: a full queue has an EVENTS_LOST record at its end, which takes the arrival up. -/
theorem lawfulQueue_arrive {q : List EventRecord} (hq : LawfulQueue q) (e : EventRecord) :
    LawfulQueue (arrive q e) := by
  obtain ⟨hle, hnewest⟩ := hq
  obtain ⟨hlen, h⟩ | ⟨h31, newest, hlast, ⟨hk, h⟩ | ⟨hk, h⟩⟩ := arrive_cases q e
  · refine lawfulQueue_of_lt ?_
    rw [h, List.length_append, List.length_singleton]
    omega
  · have hne : q.length ≠ 32 := by
      intro h32
      have hlost := hnewest h32
      rw [hlast, Option.map_some, Option.some_inj] at hlost
      exact hk hlost
    rw [h]
    refine ⟨?_, fun _ => by rw [List.getLast?_concat]; rfl⟩
    rw [List.length_append, List.length_singleton]
    omega
  · rw [h]
    refine ⟨?_, fun _ => ?_⟩
    · rw [List.length_append, List.length_dropLast, List.length_singleton]
      omega
    · rw [List.getLast?_concat, Option.map_some, fold_kind, hk]

theorem lawfulQueue_arrived {q : List EventRecord} (hq : LawfulQueue q) (list : List EventRecord) :
    LawfulQueue (arrived q list) := by
  induction list generalizing q with
  | nil => exact hq
  | cons e list ih => exact ih (lawfulQueue_arrive hq e)

theorem lawfulQueue_tail {q : List EventRecord} (hq : LawfulQueue q) : LawfulQueue q.tail := by
  cases q with
  | nil => exact hq
  | cons e rest => exact lawfulQueue_of_lt hq.1

theorem queueMove_keeps_eventLaw {s t : State} (hmove : QueueMove s.events t.events)
    (hs : s.EventLaw) : t.EventLaw := by
  rw [eventLaw_iff] at hs ⊢
  cases hmove with
  | arrivals h =>
    obtain ⟨list, h⟩ := h
    exact h ▸ lawfulQueue_arrived hs list
  | removal h => exact h ▸ lawfulQueue_tail hs
  | reset list h => exact h ▸ lawfulQueue_arrived (lawfulQueue_of_lt (by decide)) list

/-- Settles O53: a step moves the queue in one of three ways, and each keeps the law. -/
theorem eventLawKept : Obligations.EventLawKept := fun _ _ hs hstep =>
  queueMove_keeps_eventLaw (step_queueMove hstep) hs

end Sys2Proof.Machine
end

section
/-! PROOF. Configuration and cells at the host port: how the plan bytes of CONFIGURE lie in the plan and
in the config tag (R49, R168), what CONFIGURE claims (R168, R169), the fields of READ CELL (R166, R173),
and the statements about the two requests built from these. -/

namespace Sys2Proof.Machine

/-! ### Bytes packed into a pattern, byte 0 lowest -/

/-- A pattern holds a list of bytes, byte 0 lowest, and no bit beyond them. -/
def Packs {w : Nat} (x : BitVec w) (bytes : List Byte) : Prop :=
  ∀ j, x.getLsbD j = (bytes.getD (j / 8) 0).getLsbD (j % 8)

theorem packs_byte (b : Byte) : Packs b [b] := by
  intro j
  by_cases hj : j < 8
  · rw [Nat.div_eq_of_lt hj, Nat.mod_eq_of_lt hj]
    rfl
  · obtain ⟨k, hk⟩ : ∃ k, j / 8 = k + 1 := ⟨j / 8 - 1, by omega⟩
    rw [hk, BitVec.getLsbD_of_ge b j (by omega)]
    exact BitVec.getLsbD_zero.symm

theorem Packs.append {w : Nat} {x : BitVec w} {bytes : List Byte} (h : Packs x bytes) (b : Byte) :
    Packs (x ++ b) (b :: bytes) := by
  intro j
  rw [BitVec.getLsbD_append]
  by_cases hj : j < 8
  · rw [if_pos hj, Nat.div_eq_of_lt hj, Nat.mod_eq_of_lt hj]
    rfl
  · obtain ⟨m, rfl⟩ : ∃ m, j = m + 8 := ⟨j - 8, by omega⟩
    rw [if_neg hj, Nat.add_sub_cancel, h m, Nat.add_div_right m (by decide), Nat.add_mod_right]
    rfl

theorem Packs.extractLsb' {w : Nat} {x : BitVec w} {bytes : List Byte} (h : Packs x bytes)
    (k : Nat) : x.extractLsb' (8 * k) 8 = bytes.getD k 0 := by
  apply BitVec.eq_of_getLsbD_eq
  intro j hj
  rw [BitVec.getLsbD_extractLsb', decide_eq_true hj, Bool.true_and, h,
    show (8 * k + j) / 8 = k by omega, show (8 * k + j) % 8 = j by omega]

/-- R168: the pair of bits of a cell lies in one byte, four pairs to a byte. -/
theorem Packs.getLsbD_pair {w : Nat} {x : BitVec w} {bytes : List Byte} (h : Packs x bytes)
    (i : Nat) {bit : Nat} (hbit : bit < 2) :
    x.getLsbD (2 * i + bit) = (bytes.getD (i / 4) 0).getLsbD (2 * (i % 4) + bit) := by
  rw [h, show (2 * i + bit) / 8 = i / 4 by omega,
    show (2 * i + bit) % 8 = 2 * (i % 4) + bit by omega]

/-! ### The record of a CONFIGURE request -/

/-- R168: the record that the figures and the plan bytes of a request stand for. -/
def requestedConfiguration (n c r l p0 p1 p2 p3 p4 p5 p6 p7 : Byte) : Configuration :=
  ⟨n.toNat, c.toNat, r.toNat, l.toNat, p7 ++ p6 ++ p5 ++ p4 ++ p3 ++ p2 ++ p1 ++ p0⟩

/-- R168: checks 2 to 5 of a request. -/
theorem configurationOf_eq (n c r l p0 p1 p2 p3 p4 p5 p6 p7 : Byte) :
    configurationOf [n, c, r, l, p0, p1, p2, p3, p4, p5, p6, p7] =
      if 2 ≤ c.toNat ∧ c.toNat ≤ 16 ∧ n.toNat < c.toNat ∧ r.toNat ≤ 3 ∧ 16 ≤ l.toNat ∧
          l.toNat ≤ 64 then
        some (requestedConfiguration n c r l p0 p1 p2 p3 p4 p5 p6 p7)
      else none := rfl

theorem byteOf_toNat (b : Byte) : byteOf b.toNat = b := byteOf_of_val rfl

section record

variable (n c r l p0 p1 p2 p3 p4 p5 p6 p7 : Byte)

theorem requestedConfiguration_packs :
    Packs (requestedConfiguration n c r l p0 p1 p2 p3 p4 p5 p6 p7).plan
      [p0, p1, p2, p3, p4, p5, p6, p7] :=
  (packs_byte p7).append p6 |>.append p5 |>.append p4 |>.append p3 |>.append p2 |>.append p1
    |>.append p0

theorem requestedConfiguration_planBytes :
    (requestedConfiguration n c r l p0 p1 p2 p3 p4 p5 p6 p7).planBytes =
      [p0, p1, p2, p3, p4, p5, p6, p7] := by
  have hbyte := (requestedConfiguration_packs n c r l p0 p1 p2 p3 p4 p5 p6 p7).extractLsb'
  rw [Configuration.planBytes, hbyte 0, hbyte 1, hbyte 2, hbyte 3, hbyte 4, hbyte 5, hbyte 6,
    hbyte 7]
  rfl

theorem requestedConfiguration_mode (i : Fin 32) :
    (requestedConfiguration n c r l p0 p1 p2 p3 p4 p5 p6 p7).mode i =
      if ([p0, p1, p2, p3, p4, p5, p6, p7].getD (i.val / 4) 0).getLsbD (2 * (i.val % 4)) then
        .signed
      else .unsigned := by
  have hpair := (requestedConfiguration_packs n c r l p0 p1 p2 p3 p4 p5 p6 p7).getLsbD_pair i.val
    (bit := 0) (by decide)
  rw [Nat.add_zero, Nat.add_zero] at hpair
  rw [Configuration.mode, hpair]

theorem requestedConfiguration_policy (i : Fin 32) :
    (requestedConfiguration n c r l p0 p1 p2 p3 p4 p5 p6 p7).policy i =
      if ([p0, p1, p2, p3, p4, p5, p6, p7].getD (i.val / 4) 0).getLsbD (2 * (i.val % 4) + 1) then
        .saturate
      else .wrap := by
  have hpair := (requestedConfiguration_packs n c r l p0 p1 p2 p3 p4 p5 p6 p7).getLsbD_pair i.val
    (bit := 1) (by decide)
  rw [Configuration.policy, hpair]

/-- R49: the config tag covers the request's bytes from the station count on. -/
theorem configTagOf_requestedConfiguration :
    configTagOf (requestedConfiguration n c r l p0 p1 p2 p3 p4 p5 p6 p7) =
      (frameCrc [c, r, l, p0, p1, p2, p3, p4, p5, p6, p7]).extractLsb' 0 8 := by
  rw [configTagOf, requestedConfiguration_planBytes]
  simp only [requestedConfiguration, byteOf_toNat, List.cons_append, List.nil_append]

end record

/-! ### CONFIGURE -/

theorem exec_configure {s t : State} {n c r l p0 p1 p2 p3 p4 p5 p6 p7 : Byte}
    {result : ResultCode} {fields : List Byte} (hs : s.awaitsCode)
    (hclaim : s.claimConfigure [n, c, r, l, p0, p1, p2, p3, p4, p5, p6, p7] =
      (t, ⟨result, fields⟩)) :
    exec (.configure [n, c, r, l, p0, p1, p2, p3, p4, p5, p6, p7]) s =
      .next (t.answering 0x02 [n, c, r, l, p0, p1, p2, p3, p4, p5, p6, p7] result fields) :=
  exec_request rfl hs rfl hclaim

/-- R168: the state is checked before any figure. -/
theorem claimConfigure_state {s : State}
    (h : s.controller.state ≠ .unconfigured ∧ s.controller.state ≠ .ready) (params : List Byte) :
    s.claimConfigure params = (s, ⟨.state, []⟩) := by
  obtain ⟨hu, hr⟩ := h
  unfold State.claimConfigure
  split
  · contradiction
  · contradiction
  · contradiction
  · contradiction
  · rfl

theorem claimConfigure_range {s : State} {params : List Byte}
    (h : s.controller.state = .unconfigured ∨ s.controller.state = .ready)
    (hnone : configurationOf params = none) :
    s.claimConfigure params = (s, ⟨.range, []⟩) := by
  obtain h | h := h <;> rw [State.claimConfigure, h, hnone] <;> rfl

/-- R101, R169: what an accepted CONFIGURE installs; from UNCONFIGURED it moves the station to READY. -/
theorem claimConfigure_accepted {s : State} {params : List Byte} {c : Configuration}
    (h : s.controller.state = .unconfigured ∨ s.controller.state = .ready)
    (hsome : configurationOf params = some c) :
    s.claimConfigure params =
      ({ s with
          config := some c
          cells := Vector.replicate 32 Cell.initial
          frameCheck := { s.frameCheck with tag := some (configTagOf c) }
          controller := { s.controller with state := .ready }
          events := if s.controller.state = .unconfigured then
              arrive s.events (stateChanged s.bus.round s.bus.slot c.station .configured .ready
                s.controller.failures)
            else s.events },
        ⟨.ok, [configTagOf c]⟩) := by
  obtain h | h := h
  · rw [State.claimConfigure, if_pos h, h, hsome]
    rfl
  · have hready : { s.controller with state := .ready } = s.controller := by rw [← h]
    rw [State.claimConfigure, if_neg (by rw [h]; decide), hready, h, hsome]
    rfl

/-- Settles O11: the checks in their order, and the record a passed request installs. -/
theorem configureIsCheckedAndInstalled : Obligations.ConfigureIsCheckedAndInstalled := by
  intro s n c r l p0 p1 p2 p3 p4 p5 p6 p7 hs
  refine ⟨fun hstate => exec_configure hs (claimConfigure_state hstate _), ?range, ?accepted⟩
  case range =>
    intro hstate hfigures
    exact exec_configure hs (claimConfigure_range hstate
      ((configurationOf_eq ..).trans (if_neg hfigures)))
  case accepted =>
    intro hstate hc2 hc16 hn hr hl16 hl64
    have hclaim := claimConfigure_accepted hstate
      ((configurationOf_eq n c r l p0 p1 p2 p3 p4 p5 p6 p7).trans
        (if_pos ⟨hc2, hc16, hn, hr, hl16, hl64⟩))
    rw [configTagOf_requestedConfiguration] at hclaim
    exact ⟨_, exec_configure hs hclaim, rfl, rfl, rfl, rfl,
      fun i => ⟨requestedConfiguration_mode .., requestedConfiguration_policy ..⟩,
      rfl, rfl, rfl, rfl, rfl, rfl, rfl, rfl, rfl, rfl, rfl, rfl, rfl⟩

/-! ### READ CELL -/

theorem exec_readCell {s : State} {c : Byte} {result : ResultCode} {fields : List Byte}
    (hs : s.awaitsCode) (hclaim : s.claimReadCell [c] = (s, ⟨result, fields⟩)) :
    exec (.readCell [c]) s = .next (s.answering 0x20 [c] result fields) :=
  exec_request rfl hs rfl hclaim

theorem claimReadCell_range {s : State} {c : Byte} (h : 31 < c.toNat) :
    s.claimReadCell [c] = (s, ⟨.range, []⟩) := by
  rw [State.claimReadCell, (cellOfByte_eq_none_iff c).mpr (Nat.not_le.mpr h)]
  rfl

theorem claimReadCell_named {s : State} {c : Byte} {i : Fin 32} (h : i.val = c.toNat) :
    s.claimReadCell [c] = (s, ⟨.ok, s.cellFields i⟩) := by
  rw [State.claimReadCell, cellOfByte_of_val h]
  rfl

/-- R166: CARRY in bit 0, OVERFLOW in bit 1, DIVERR in bit 2. -/
theorem flagsByte_eq (f : CellFlags) :
    flagsByte f =
      BitVec.ofNat 8 (f.carry.toNat + 2 * f.overflow.toNat + 4 * f.diverr.toNat) := by
  obtain ⟨carry, overflow, diverr⟩ := f
  cases carry <;> cases overflow <;> cases diverr <;> rfl

/-- R117: the stale byte of a reply is clear in MEMBER alone. -/
theorem byteOfBool_stale (s : State) :
    byteOfBool s.stale = if s.controller.state = .member then 0 else 1 := by
  by_cases h : s.controller.state = .member <;> simp [byteOfBool, State.stale, h]

/-- R2: an UNCONFIGURED station's cells hold their initial values. -/
theorem cells_of_unconfigured {s : State} (hlaw : s.ConfigLaw)
    (h : s.controller.state = .unconfigured) : s.cells = Vector.replicate 32 Cell.initial := by
  unfold State.ConfigLaw at hlaw
  split at hlaw
  · obtain ⟨-, -, hcells⟩ := hlaw
    exact hcells
  · obtain ⟨-, -, hstate⟩ := hlaw
    contradiction

/-- R173: the fields of any cell while the station is UNCONFIGURED. -/
theorem cellFields_of_unconfigured {s : State} (hlaw : s.ConfigLaw)
    (h : s.controller.state = .unconfigured) (i : Fin 32) :
    s.cellFields i = [0, 0, 0, 0, 0, 0, 0, 0, 0, 0, 0, 0, 1] := by
  have hcell : s.cell i = Cell.initial := by
    rw [State.cell, cells_of_unconfigured hlaw h, Fin.getElem_fin, Vector.getElem_replicate]
  rw [State.cellFields, hcell, byteOfBool_stale, h]
  decide

/-- Settles O17: the index byte names a cell or none, and the reply holds that cell's record. -/
theorem readCellReportsRecord : Obligations.ReadCellReportsRecord := by
  intro s c i hs
  refine ⟨fun hrange => exec_readCell hs (claimReadCell_range hrange), ?named, ?unconfigured⟩
  case named =>
    intro hc
    rw [← flagsByte_eq, ← byteOfBool_stale]
    exact exec_readCell hs (claimReadCell_named hc)
  case unconfigured =>
    intro hc hstate hlaw
    have hclaim := claimReadCell_named (s := s) (i := ⟨c.toNat, Nat.lt_succ_of_le hc⟩) (c := c) rfl
    rw [cellFields_of_unconfigured hlaw hstate] at hclaim
    exact exec_readCell hs hclaim

end Sys2Proof.Machine
end

section
/-! PROOF. Tags: the tag of a new post is found among the first sixteen values from the next-tag counter
on, for a queue of at most fifteen posts cannot hold them all (R84). -/

namespace Sys2Proof.Machine

-- One theorem after another: each proof checked beside another takes a thread with memory of its own.
set_option Elab.async false

/-- R84: the search stops `m` values on: those before are held by posts, and this one is free unless the
fuel ran out. -/
theorem freeTag_spec (posts : List Post) (fuel : Nat) (start : Byte) :
    ∃ m ≤ fuel, freeTag posts fuel start = start + BitVec.ofNat 8 m ∧
      (∀ k < m, ∃ p ∈ posts, p.tag = start + BitVec.ofNat 8 k) ∧
      (m < fuel → ∀ p ∈ posts, p.tag ≠ freeTag posts fuel start) := by
  induction fuel generalizing start with
  | zero => exact ⟨0, le_rfl, by simp [freeTag], by simp, by simp⟩
  | succ fuel ih =>
    by_cases hheld : posts.any (fun p => p.tag = start) = true
    · obtain ⟨m, hm, htag, hbefore, hfree⟩ := ih (start + 1)
      have hnext : ∀ k, start + 1 + BitVec.ofNat 8 k = start + BitVec.ofNat 8 (k + 1) := by
        intro k
        rw [BitVec.add_assoc, Nat.add_comm k 1, BitVec.ofNat_add]
        rfl
      have hsearch : freeTag posts (fuel + 1) start = freeTag posts fuel (start + 1) := if_pos hheld
      refine ⟨m + 1, by omega, by rw [hsearch, htag, hnext], ?_, fun hlt => ?_⟩
      · intro k hk
        cases k with
        | zero =>
          obtain ⟨p, hp, hptag⟩ := List.any_eq_true.mp hheld
          exact ⟨p, hp, by simpa using hptag⟩
        | succ k =>
          obtain ⟨p, hp, hptag⟩ := hbefore k (by omega)
          exact ⟨p, hp, hptag.trans (hnext k)⟩
      · rw [hsearch]
        exact hfree (by omega)
    · have hfound : freeTag posts (fuel + 1) start = start := if_neg hheld
      refine ⟨0, by omega, by simp [hfound], by simp, fun _ p hp hptag => hheld ?_⟩
      exact List.any_eq_true.mpr ⟨p, hp, by simpa [hfound] using hptag⟩

/-- `m` consecutive tags. -/
def tagsFrom (start : Byte) (m : Nat) : List Byte :=
  (List.range m).map fun k => start + BitVec.ofNat 8 k

theorem tagsFrom_nodup (start : Byte) {m : Nat} (hm : m ≤ 256) : (tagsFrom start m).Nodup := by
  refine List.Nodup.map_on (fun i hi j hj hij => ?_) List.nodup_range
  rw [List.mem_range] at hi hj
  have hval := congrArg BitVec.toNat (add_left_cancel hij)
  rw [BitVec.toNat_ofNat, BitVec.toNat_ofNat] at hval
  omega

/-- At most as many consecutive tags are held as there are posts. -/
theorem le_length_of_tags_held {posts : List Post} {start : Byte} {m : Nat} (hm : m ≤ 256)
    (h : ∀ k < m, ∃ p ∈ posts, p.tag = start + BitVec.ofNat 8 k) : m ≤ posts.length := by
  have hsub : tagsFrom start m ⊆ posts.map Post.tag := by
    intro tag htag
    obtain ⟨k, hk, rfl⟩ := List.mem_map.mp htag
    obtain ⟨p, hp, hptag⟩ := h k (List.mem_range.mp hk)
    exact List.mem_map.mpr ⟨p, hp, hptag⟩
  simpa [tagsFrom] using ((tagsFrom_nodup start hm).subperm hsub).length_le

/-- Settles O15: the search cannot run through all sixteen values, so the one it stops at is free. -/
theorem tagIsFirstFree : Obligations.TagIsFirstFree := by
  intro posts start k hlen
  obtain ⟨m, hm, htag, hbefore, hfree⟩ := freeTag_spec posts 16 start
  have hroom := le_length_of_tags_held (by omega) hbefore
  refine ⟨hfree (by omega), fun hk => hbefore k ?_⟩
  rw [htag, add_sub_cancel_left, BitVec.toNat_ofNat] at hk
  omega

end Sys2Proof.Machine
end

section
/-! PROOF. Frame bytes: every field of a frame is read back from the bytes it is written as, and bytes that
are read are those that would be written (R43 to R47, R52), field by field, then for the contribution
list, the transfer section and the whole frame. -/

namespace Sys2Proof.Machine

-- One theorem after another: each proof checked beside another takes a thread with memory of its own.
set_option Elab.async false

/-! ### Multi-byte numbers -/

theorem Packs.inj {w : Nat} {x y : BitVec w} {bytes : List Byte} (hx : Packs x bytes)
    (hy : Packs y bytes) : x = y :=
  BitVec.eq_of_getLsbD_eq fun j _ => (hx j).trans (hy j).symm

/-- A pattern of whole bytes packs its own bytes. -/
theorem packs_self {n : Nat} (x : BitVec (8 * n)) :
    Packs x ((List.range n).map fun k => x.extractLsb' (8 * k) 8) := by
  intro j
  by_cases hj : j / 8 < n
  · have hbyte : ((List.range n).map fun k => x.extractLsb' (8 * k) 8).getD (j / 8) 0 =
        x.extractLsb' (8 * (j / 8)) 8 := by
      simp [List.getD_eq_getElem?_getD, hj]
    rw [hbyte, BitVec.getLsbD_extractLsb', decide_eq_true (Nat.mod_lt j (by decide)),
      Bool.true_and, Nat.div_add_mod]
  · have hnone : ((List.range n).map fun k => x.extractLsb' (8 * k) 8).getD (j / 8) 0 = 0 := by
      simp [List.getD_eq_getElem?_getD, hj]
    rw [hnone, BitVec.getLsbD_of_ge x j (by omega)]
    exact BitVec.getLsbD_zero.symm

theorem packs_join2 (b1 b0 : Byte) : Packs (join2 b1 b0) [b0, b1] := (packs_byte b1).append b0

theorem packs_join4 (b3 b2 b1 b0 : Byte) : Packs (join4 b3 b2 b1 b0) [b0, b1, b2, b3] :=
  (packs_byte b3).append b2 |>.append b1 |>.append b0

theorem packs_join5 (b4 b3 b2 b1 b0 : Byte) : Packs (join5 b4 b3 b2 b1 b0) [b0, b1, b2, b3, b4] :=
  (packs_byte b4).append b3 |>.append b2 |>.append b1 |>.append b0

theorem join2_extract (x : BitVec 16) : join2 (x.extractLsb' 8 8) (x.extractLsb' 0 8) = x :=
  (packs_join2 _ _).inj (packs_self (n := 2) x)

theorem join4_extract (x : BitVec 32) : join4 (x.extractLsb' 24 8) (x.extractLsb' 16 8)
    (x.extractLsb' 8 8) (x.extractLsb' 0 8) = x :=
  (packs_join4 _ _ _ _).inj (packs_self (n := 4) x)

theorem join5_extract (x : BitVec 40) : join5 (x.extractLsb' 32 8) (x.extractLsb' 24 8)
    (x.extractLsb' 16 8) (x.extractLsb' 8 8) (x.extractLsb' 0 8) = x :=
  (packs_join5 _ _ _ _ _).inj (packs_self (n := 5) x)

theorem extract8_join2 (b1 b0 : Byte) : (join2 b1 b0).extractLsb' 8 8 = b1 :=
  (packs_join2 b1 b0).extractLsb' 1

theorem extract0_join2 (b1 b0 : Byte) : (join2 b1 b0).extractLsb' 0 8 = b0 :=
  (packs_join2 b1 b0).extractLsb' 0

theorem bytes2_join2 (b1 b0 : Byte) : bytes2 (join2 b1 b0) = [b1, b0] := by
  rw [bytes2, extract8_join2, extract0_join2]

theorem bytes4_join4 (b3 b2 b1 b0 : Byte) : bytes4 (join4 b3 b2 b1 b0) = [b3, b2, b1, b0] := by
  have h := (packs_join4 b3 b2 b1 b0).extractLsb'
  unfold bytes4
  rw [h 3, h 2, h 1, h 0]
  rfl

theorem bytes5_join5 (b4 b3 b2 b1 b0 : Byte) :
    bytes5 (join5 b4 b3 b2 b1 b0) = [b4, b3, b2, b1, b0] := by
  have h := (packs_join5 b4 b3 b2 b1 b0).extractLsb'
  unfold bytes5
  rw [h 4, h 3, h 2, h 1, h 0]
  rfl

theorem bytes2_inj {x y : BitVec 16} (h : bytes2 x = bytes2 y) : x = y := by
  simp only [bytes2, List.cons.injEq] at h
  rw [← join2_extract x, h.1, h.2.1, join2_extract]

theorem byteOf_toNat_of_lt {n : Nat} (h : n < 256) : (byteOf n).toNat = n :=
  (BitVec.toNat_ofNat n 8).trans (Nat.mod_eq_of_lt h)

/-! ### The first byte -/

theorem tallyFirst_fields {n : Nat} (h : n < 16) :
    (tallyFirst n).extractLsb' 4 4 = 0xA#4 ∧ senderOf (tallyFirst n) = n := by
  have hall : ∀ k : Fin 16,
      (tallyFirst k.val).extractLsb' 4 4 = 0xA#4 ∧ senderOf (tallyFirst k.val) = k.val := by decide
  exact hall ⟨n, h⟩

theorem joinFirst_fields {n : Nat} (h : n < 16) :
    (joinFirst n).extractLsb' 4 4 = 0x6#4 ∧ senderOf (joinFirst n) = n := by
  have hall : ∀ k : Fin 16,
      (joinFirst k.val).extractLsb' 4 4 = 0x6#4 ∧ senderOf (joinFirst k.val) = k.val := by decide
  exact hall ⟨n, h⟩

theorem senderOf_lt (b : Byte) : senderOf b < 16 := BitVec.isLt _

theorem tallyFirst_senderOf {b : Byte} (h : b.extractLsb' 4 4 = 0xA#4) :
    tallyFirst (senderOf b) = b := by
  have hall : ∀ x : Byte, x.extractLsb' 4 4 = 0xA#4 → tallyFirst (senderOf x) = x := by decide
  exact hall b h

theorem joinFirst_senderOf {b : Byte} (h : b.extractLsb' 4 4 = 0x6#4) :
    joinFirst (senderOf b) = b := by
  have hall : ∀ x : Byte, x.extractLsb' 4 4 = 0x6#4 → joinFirst (senderOf x) = x := by decide
  exact hall b h

/-! ### The flags byte of a TALLY frame -/

/-- R44, R47: a TALLY flags byte with its marks and its contribution count. -/
def marksByte (farewell transfer joined : Bool) (count : Nat) : Byte :=
  byteOf ((if farewell then 128 else 0) + (if transfer then 64 else 0) + (if joined then 32 else 0) +
    count)

theorem flagsByte_eq_marksByte (f : TallyFrame) :
    f.flagsByte = marksByte f.farewell f.transfer.isSome f.admits f.contributions.length := rfl

theorem marksByte_fields (farewell transfer joined : Bool) {count : Nat} (h : count ≤ 4) :
    (marksByte farewell transfer joined count).getLsbD 7 = farewell ∧
      (marksByte farewell transfer joined count).getLsbD 6 = transfer ∧
      (marksByte farewell transfer joined count).getLsbD 5 = joined ∧
      (marksByte farewell transfer joined count).extractLsb' 3 2 = 0 ∧
      ((marksByte farewell transfer joined count).extractLsb' 0 3).toNat = count := by
  have hall : ∀ (e t a : Bool) (k : Fin 5), (marksByte e t a k).getLsbD 7 = e ∧
      (marksByte e t a k).getLsbD 6 = t ∧ (marksByte e t a k).getLsbD 5 = a ∧
      (marksByte e t a k).extractLsb' 3 2 = 0 ∧
      ((marksByte e t a k).extractLsb' 0 3).toNat = k := by decide
  exact hall farewell transfer joined ⟨count, by omega⟩

theorem marksByte_of_fields {flags : Byte} (h : flags.extractLsb' 3 2 = 0) :
    marksByte (flags.getLsbD 7) (flags.getLsbD 6) (flags.getLsbD 5)
      (flags.extractLsb' 0 3).toNat = flags := by
  have hall : ∀ x : Byte, x.extractLsb' 3 2 = 0 →
      marksByte (x.getLsbD 7) (x.getLsbD 6) (x.getLsbD 5) (x.extractLsb' 0 3).toNat = x := by
    decide
  exact hall flags h

/-! ### Contribution records -/

theorem kindCode_lt (kind : ContributionKind) : kindCode kind < 256 := by cases kind <;> decide

theorem kindOfCode_byteOf (kind : ContributionKind) :
    kindOfCode (byteOf (kindCode kind)) = some kind :=
  kindOfCode_kindCode (byteOf_toNat_of_lt (kindCode_lt kind)).symm

theorem byteOf_kindCode {b : Byte} {kind : ContributionKind} (h : kindOfCode b = some kind) :
    byteOf (kindCode kind) = b := by
  have hcode : kindCode kind = b.toNat := by
    unfold kindOfCode at h
    split at h <;> cases h <;> simp_all [kindCode]
  exact byteOf_of_val hcode

theorem cellOfByte_byteOf (cell : Fin 32) : cellOfByte (byteOf cell.val) = some cell :=
  cellOfByte_of_val (byteOf_toNat_of_lt (by omega)).symm

theorem byteOf_cell {b : Byte} {cell : Fin 32} (h : cellOfByte b = some cell) :
    byteOf cell.val = b := by
  unfold cellOfByte at h
  split at h <;> cases h
  exact byteOf_toNat b

theorem contributionBytes_length (c : Contribution) : (contributionBytes c).length = 7 := rfl

theorem flatMap_contributionBytes_length (list : List Contribution) :
    (list.flatMap contributionBytes).length = 7 * list.length := by
  induction list with
  | nil => rfl
  | cons c list ih =>
    rw [List.flatMap_cons, List.length_append, contributionBytes_length, ih, List.length_cons]
    omega

theorem readContributions_bytes (list : List Contribution) (rest : List Byte) :
    readContributions list.length (list.flatMap contributionBytes ++ rest) = some (list, rest) := by
  induction list with
  | nil => rfl
  | cons c list ih =>
    simp only [List.flatMap_cons, contributionBytes, bytes4, List.cons_append, List.nil_append,
      List.length_cons, readContributions, kindOfCode_byteOf, cellOfByte_byteOf, ih,
      join4_extract]

theorem bytes_of_readContributions {n : Nat} {bytes behind : List Byte} {list : List Contribution}
    (h : readContributions n bytes = some (list, behind)) :
    list.length = n ∧ bytes = list.flatMap contributionBytes ++ behind := by
  induction n generalizing bytes list with
  | zero => cases h; exact ⟨rfl, rfl⟩
  | succ n ih =>
    unfold readContributions at h
    split at h
    · next hzero => cases hzero
    · next m k c t o3 o2 o1 o0 rest hm =>
      cases hm
      split at h
      · next kind cell more last hkind hcell hmore =>
        cases h
        obtain ⟨hlen, hrest⟩ := ih hmore
        refine ⟨by rw [List.length_cons, hlen], ?_⟩
        simp only [List.flatMap_cons, contributionBytes, byteOf_kindCode hkind, byteOf_cell hcell,
          bytes4_join4, List.cons_append, List.nil_append, ← hrest]
      · cases h
    · cases h

/-! ### Transfer sections -/

theorem flagsOfByte_flagsByte (f : CellFlags) :
    flagsOfByte (flagsByte f) = f ∧ (flagsByte f).extractLsb' 3 5 = 0 := by
  obtain ⟨carry, overflow, diverr⟩ := f
  revert carry overflow diverr
  decide

theorem flagsByte_flagsOfByte {b : Byte} (h : b.extractLsb' 3 5 = 0) :
    flagsByte (flagsOfByte b) = b := by
  have hall : ∀ x : Byte, x.extractLsb' 3 5 = 0 → flagsByte (flagsOfByte x) = x := by decide
  exact hall b h

theorem transferBytes_length (x : TransferSection) : (transferBytes x).length = 54 := rfl

theorem readTransferCell_bytes {index : Nat} (hi : index < 256) (c : Cell) (rest : List Byte) :
    readTransferCell index (cellBytes index c ++ rest) = some (c, rest) := by
  obtain ⟨hflags, hzero⟩ := flagsOfByte_flagsByte c.flags
  simp only [cellBytes, bytes5, bytes4, bytes2, List.cons_append, List.nil_append,
    readTransferCell, byteOf_toNat_of_lt hi, hzero, hflags, join5_extract, join4_extract,
    join2_extract, and_self, if_true]

theorem bytes_of_readTransferCell {index : Nat} {bytes rest : List Byte} {c : Cell}
    (h : readTransferCell index bytes = some (c, rest)) : bytes = cellBytes index c ++ rest := by
  unfold readTransferCell at h
  split at h
  · next i v4 v3 v2 v1 v0 r3 r2 r1 r0 f n1 n0 rest' =>
    split at h
    · next hlegal =>
      obtain ⟨rfl, hzero⟩ := hlegal
      cases h
      simp only [cellBytes, byteOf_toNat, bytes5_join5, bytes4_join4, bytes2_join2,
        flagsByte_flagsOfByte hzero, List.cons_append, List.nil_append]
    · cases h
  · cases h

theorem vector4_eta {α : Type} (v : Vector α 4) : #v[v[0], v[1], v[2], v[3]] = v := by
  ext i hi
  match i, hi with
  | 0, _ => rfl
  | 1, _ => rfl
  | 2, _ => rfl
  | 3, _ => rfl

/-- The four cells of a section, one after another. -/
theorem transferBytes_eq (x : TransferSection) (rest : List Byte) :
    transferBytes x ++ rest = byteOf x.joiner :: byteOf x.first ::
      (cellBytes x.first x.cells[0] ++ (cellBytes (x.first + 1) x.cells[1] ++
        (cellBytes (x.first + 2) x.cells[2] ++ (cellBytes (x.first + 3) x.cells[3] ++ rest)))) := by
  simp only [transferBytes, List.append_assoc, List.cons_append, List.nil_append]

theorem readTransfer_bytes {x : TransferSection} {sender : Nat} (hj : x.joiner < 16)
    (hother : x.joiner ≠ sender) (h4 : x.first % 4 = 0) (h28 : x.first ≤ 28) (rest : List Byte) :
    readTransfer sender (decide (x.first = 28)) (transferBytes x ++ rest) = some x := by
  have hjb := byteOf_toNat_of_lt (show x.joiner < 256 by omega)
  have hfb := byteOf_toNat_of_lt (show x.first < 256 by omega)
  have hcells : readTransferCells x.first (cellBytes x.first x.cells[0] ++
      (cellBytes (x.first + 1) x.cells[1] ++ (cellBytes (x.first + 2) x.cells[2] ++
        (cellBytes (x.first + 3) x.cells[3] ++ rest)))) = some x.cells := by
    unfold readTransferCells
    simp only [readTransferCell_bytes (show x.first < 256 by omega),
      readTransferCell_bytes (show x.first + 1 < 256 by omega),
      readTransferCell_bytes (show x.first + 2 < 256 by omega),
      readTransferCell_bytes (show x.first + 3 < 256 by omega), vector4_eta]
  rw [transferBytes_eq]
  simp only [readTransfer, hjb, hfb, hcells]
  rw [if_pos ⟨by omega, hother, h4, h28, by simp⟩]

theorem bytes_of_readTransfer {x : TransferSection} {sender : Nat} {admitted : Bool}
    {bytes : List Byte} (h : readTransfer sender admitted bytes = some x) :
    x.joiner < 16 ∧ x.joiner ≠ sender ∧ x.first % 4 = 0 ∧ x.first ≤ 28 ∧
      (admitted = decide (x.first = 28)) ∧ ∃ rest, bytes = transferBytes x ++ rest := by
  unfold readTransfer at h
  split at h
  · next j i rest =>
    split at h
    · next hlegal =>
      obtain ⟨hj, hother, h4, h28, hadmit⟩ := hlegal
      split at h
      · next cells hcells =>
        cases h
        refine ⟨by simp only; omega, hother, h4, h28, ?_, ?_⟩
        · cases admitted <;> simp_all
        · unfold readTransferCells at hcells
          split at hcells
          · cases hcells
          next c0 rest0 h0 =>
          split at hcells
          · cases hcells
          next c1 rest1 h1 =>
          split at hcells
          · cases hcells
          next c2 rest2 h2 =>
          split at hcells
          · cases hcells
          next c3 rest3 h3 =>
          cases hcells
          refine ⟨rest3, ?_⟩
          rw [transferBytes_eq, bytes_of_readTransferCell h0, bytes_of_readTransferCell h1,
            bytes_of_readTransferCell h2, bytes_of_readTransferCell h3]
          simp only [byteOf_toNat]
          rfl
      · cases h
    · cases h
  · cases h

/-! ### Whole frames -/

/-- R47: the bytes of the transfer section, if there is one. -/
def sectionBytes (transfer : Option TransferSection) : List Byte := transfer.elim [] transferBytes

theorem tallyBody_append (f : TallyFrame) (rest : List Byte) :
    f.body ++ rest = tallyFirst f.sender :: f.round.extractLsb' 8 8 :: f.round.extractLsb' 0 8 ::
      f.tag :: f.view.extractLsb' 8 8 :: f.view.extractLsb' 0 8 :: f.digest.extractLsb' 8 8 ::
      f.digest.extractLsb' 0 8 :: f.flagsByte :: (f.contributions.flatMap contributionBytes ++
        (sectionBytes f.transfer ++ rest)) := by
  have hsection : f.body = [tallyFirst f.sender] ++ bytes2 f.round ++ [f.tag] ++ bytes2 f.view ++
      bytes2 f.digest ++ [f.flagsByte] ++ f.contributions.flatMap contributionBytes ++
      sectionBytes f.transfer := by
    unfold TallyFrame.body sectionBytes
    cases f.transfer <;> rfl
  rw [hsection]
  simp only [bytes2, List.append_assoc, List.cons_append, List.nil_append]

theorem joinBody_append (f : JoinFrame) (rest : List Byte) :
    f.body ++ rest = joinFirst f.sender :: f.round.extractLsb' 8 8 :: f.round.extractLsb' 0 8 ::
      f.tag :: expectByte f.expect :: rest := by
  simp only [JoinFrame.body, bytes2, List.cons_append, List.nil_append]

theorem readTally_body {f : TallyFrame} (h : (Frame.tally f).WellFormed) (rest : List Byte) :
    readTally (f.body ++ rest) = some f := by
  obtain ⟨hsender, hfour, hfarewell, htransfer⟩ := h
  obtain ⟨h7, h6, h5, h34, hcount⟩ :=
    marksByte_fields f.farewell f.transfer.isSome f.admits hfour
  obtain ⟨-, hsenderOf⟩ := tallyFirst_fields hsender
  rw [tallyBody_append]
  unfold readTally
  simp only [flagsByte_eq_marksByte, h7, h6, h5, h34, hcount, hsenderOf, join2_extract,
    readContributions_bytes]
  obtain ⟨sender, round, tag, view, digest, farewell, contributions, transfer⟩ := f
  cases transfer with
  | none =>
    have hlegal : ¬ (4 < contributions.length ∨ farewell = true ∧ 0 < contributions.length) := by
      rintro (hmore | ⟨hleave, hsome⟩)
      · exact absurd hfour (not_le.mpr hmore)
      · obtain ⟨hnone, -⟩ := hfarewell hleave
        exact absurd hnone (List.length_pos_iff.mp hsome)
    simpa [TallyFrame.admits] using hlegal
  | some x =>
    obtain ⟨hj, hother, h4, h28⟩ := htransfer
    have hstays : farewell = false := by
      cases farewell with
      | false => rfl
      | true => exact absurd (hfarewell rfl).2 (by simp)
    have hread := readTransfer_bytes hj hother h4 h28 rest
    simpa [TallyFrame.admits, sectionBytes, hread, hstays] using hfour

theorem readJoin_body {f : JoinFrame} (h : (Frame.join f).WellFormed) (rest : List Byte) :
    readJoin (f.body ++ rest) = some f := by
  obtain ⟨hsender, hexpect⟩ := h
  obtain ⟨-, hsenderOf⟩ := joinFirst_fields hsender
  rw [joinBody_append]
  obtain ⟨sender, round, tag, expect⟩ := f
  cases expect with
  | none => simp [readJoin, expectByte, hsenderOf, join2_extract]
  | some e =>
    obtain ⟨h4, h28⟩ := hexpect
    have hbyte := byteOf_toNat_of_lt (show e < 256 by omega)
    have hne : ¬ byteOf e = 255#8 := by
      intro heq
      rw [heq] at hbyte
      exact absurd hbyte (by simp; omega)
    simp [readJoin, expectByte, hne, hbyte, h4, h28, hsenderOf, join2_extract]

/-- R47: the bytes of a frame before its CRC. -/
def Frame.body (f : Frame) : List Byte :=
  match f with
  | .tally t => t.body
  | .join j => j.body

theorem Frame.bytes_eq (f : Frame) : f.bytes = withCrc f.body := by cases f <;> rfl

theorem readFrame_body {f : Frame} (h : f.WellFormed) (rest : List Byte) :
    readFrame (f.body ++ rest) = some f := by
  cases f with
  | tally t =>
    have hread := readTally_body h rest
    have hupper := (tallyFirst_fields h.1).1
    show readFrame (t.body ++ rest) = _
    rw [tallyBody_append] at hread ⊢
    simp [readFrame, hupper, hread]
  | join j =>
    have hread := readJoin_body h rest
    have hupper := (joinFirst_fields h.1).1
    show readFrame (j.body ++ rest) = _
    rw [joinBody_append] at hread ⊢
    simp [readFrame, hupper, hread]

theorem Frame.body_length (f : Frame) : f.body.length + 2 = f.length := by
  cases f with
  | join j => rfl
  | tally t =>
    show t.body.length + 2 = _
    rw [← List.append_nil t.body, tallyBody_append]
    obtain ⟨sender, round, tag, view, digest, farewell, contributions, transfer⟩ := t
    simp only [List.length_cons, List.length_append, flatMap_contributionBytes_length,
      Frame.length]
    cases transfer with
    | none => simp only [sectionBytes, Option.elim, List.length_nil]; simp; omega
    | some x => simp only [sectionBytes, Option.elim, transferBytes_length]; simp; omega

theorem Frame.bytes_length (f : Frame) : f.bytes.length = f.length := by
  rw [f.bytes_eq, withCrc, List.length_append, ← f.body_length]
  rfl

theorem Frame.bytes_ne_nil (f : Frame) : f.bytes ≠ [] := by
  rw [← List.length_pos_iff, f.bytes_length, ← f.body_length]
  omega

/-- R43: what the first bytes of a frame say: its kind and sender, its tag, and its declared length. -/
theorem Frame.body_head {f : Frame} (h : f.WellFormed) (rest : List Byte) :
    namesKind (f.body ++ rest) = true ∧ senderOf ((f.body ++ rest).getD 0 0) = f.sender ∧
      (f.body ++ rest).getD 3 0 = f.tag := by
  cases f with
  | tally t =>
    obtain ⟨hupper, hsender⟩ := tallyFirst_fields h.1
    show namesKind (t.body ++ rest) = true ∧ senderOf ((t.body ++ rest).getD 0 0) = _ ∧
      (t.body ++ rest).getD 3 0 = _
    rw [tallyBody_append]
    exact ⟨by simp [namesKind, hupper], hsender, rfl⟩
  | join j =>
    obtain ⟨hupper, hsender⟩ := joinFirst_fields h.1
    show namesKind (j.body ++ rest) = true ∧ senderOf ((j.body ++ rest).getD 0 0) = _ ∧
      (j.body ++ rest).getD 3 0 = _
    rw [joinBody_append]
    exact ⟨by simp [namesKind, hupper], hsender, rfl⟩

/-- R50: a run that starts with a frame's bytes declares that frame's length, once it is long enough. -/
theorem Frame.declaredLength_body {f : Frame} (h : f.WellFormed) (rest : List Byte) {n : Nat}
    (hn : 9 ≤ n ∨ f.length = 7) : declaredLength (f.body ++ rest) n = some f.length := by
  cases f with
  | join j =>
    have hupper := (joinFirst_fields h.1).1
    show declaredLength (j.body ++ rest) n = _
    rw [joinBody_append]
    simp [declaredLength, hupper, Frame.length]
  | tally t =>
    obtain ⟨hsender, hfour, -⟩ := h
    have hupper := (tallyFirst_fields hsender).1
    obtain ⟨-, h6, -, -, hcount⟩ :=
      marksByte_fields t.farewell t.transfer.isSome t.admits hfour
    have hlong : ¬ n < 9 := by
      have hnot : (Frame.tally t).length ≠ 7 := by simp only [Frame.length]; split <;> omega
      omega
    show declaredLength (t.body ++ rest) n = _
    rw [tallyBody_append]
    simp only [declaredLength, List.getD_cons_zero, hupper, hlong, List.getD_cons_succ,
      flagsByte_eq_marksByte, h6, hcount, Frame.length, if_false]
    rfl

/-- Settles O26: the body is read back whatever stands behind it, and the CRC adds two bytes. -/
theorem builtFrameReadsBack : Obligations.BuiltFrameReadsBack := by
  intro f hf
  have hlong : 9 ≤ f.bytes.length ∨ f.length = 7 := by
    rw [f.bytes_length]
    cases f with
    | join j => exact .inr rfl
    | tally t => refine .inl ?_; simp only [Frame.length]; split <;> omega
  refine ⟨?_, f.bytes_length, ?_⟩
  · rw [f.bytes_eq]
    exact readFrame_body hf _
  · generalize f.bytes.length = n at hlong
    rw [f.bytes_eq]
    exact Frame.declaredLength_body hf _ hlong

/-! ### Reading back what was read -/

/-- R44, R45, R47, R52: a TALLY frame is legal only as it would be written, the bytes behind it aside. -/
theorem body_of_readTally {f : TallyFrame} {bytes : List Byte}
    (hupper : (bytes.getD 0 0).extractLsb' 4 4 = 0xA#4) (h : readTally bytes = some f) :
    (Frame.tally f).WellFormed ∧ ∃ rest, bytes = f.body ++ rest := by
  unfold readTally at h
  split at h
  · next b r1 r0 tag v1 v0 d1 d0 flags rest =>
    dsimp only at h
    split at h
    · cases h
    · next hlegal =>
      simp only [not_or, not_and, not_not, not_lt] at hlegal
      obtain ⟨hzero, hfour, hfarewell, hadmit⟩ := hlegal
      have hflags := marksByte_of_fields hzero
      have hfirst : tallyFirst (senderOf b) = b := tallyFirst_senderOf hupper
      split at h
      · cases h
      · next contributions behind hread =>
        obtain ⟨hlen, hrest⟩ := bytes_of_readContributions hread
        split at h
        · next htransfer =>
          split at h
          · cases h
          · next x hx =>
            obtain ⟨hj, hother, h4, h28, hadmitted, last, hlast⟩ := bytes_of_readTransfer hx
            cases h
            refine ⟨⟨senderOf_lt b, hlen ▸ hfour, fun hleave => ?_, hj, hother, h4, h28⟩, last, ?_⟩
            · exact absurd htransfer (hfarewell hleave).2
            · rw [htransfer, hadmitted, ← hlen] at hflags
              rw [tallyBody_append, flagsByte_eq_marksByte]
              simp only [hfirst, extract8_join2, extract0_join2, sectionBytes, Option.elim,
                Option.isSome_some, TallyFrame.admits, hflags, hrest, hlast]
        · next htransfer =>
          cases h
          refine ⟨⟨senderOf_lt b, hlen ▸ hfour, fun hleave => ?_, trivial⟩, behind, ?_⟩
          · have hempty : contributions.length = 0 := by
              have := (hfarewell hleave).1
              omega
            exact ⟨List.length_eq_zero_iff.mp hempty, rfl⟩
          · have hadmitted : flags.getLsbD 5 = false := by
              cases hbit : flags.getLsbD 5 with
              | false => rfl
              | true => exact absurd (hadmit hbit) htransfer
            rw [Bool.eq_false_iff.mpr htransfer, hadmitted, ← hlen] at hflags
            rw [tallyBody_append, flagsByte_eq_marksByte]
            simp only [hfirst, extract8_join2, extract0_join2, sectionBytes, Option.elim,
              Option.isSome_none, TallyFrame.admits, hflags, hrest, List.nil_append]
  · cases h

theorem body_of_readJoin {f : JoinFrame} {bytes : List Byte}
    (hupper : (bytes.getD 0 0).extractLsb' 4 4 = 0x6#4) (h : readJoin bytes = some f) :
    (Frame.join f).WellFormed ∧ ∃ rest, bytes = f.body ++ rest := by
  unfold readJoin at h
  split at h
  · next b r1 r0 tag e rest =>
    have hfirst : joinFirst (senderOf b) = b := joinFirst_senderOf hupper
    split at h
    · next hfresh =>
      cases h
      refine ⟨⟨senderOf_lt b, trivial⟩, rest, ?_⟩
      rw [joinBody_append]
      simp only [hfirst, extract8_join2, extract0_join2, expectByte, hfresh]
    · split at h
      · next hlegal =>
        cases h
        refine ⟨⟨senderOf_lt b, hlegal⟩, rest, ?_⟩
        rw [joinBody_append]
        simp only [hfirst, extract8_join2, extract0_join2, expectByte, byteOf_toNat]
      · cases h
  · cases h

/-- R52: a frame is legal only as it would be written, the bytes behind it aside. -/
theorem body_of_readFrame {f : Frame} {bytes : List Byte} (h : readFrame bytes = some f) :
    f.WellFormed ∧ ∃ rest, bytes = f.body ++ rest := by
  unfold readFrame at h
  split at h
  · cases h
  · split at h
    · next hupper =>
      obtain ⟨t, ht, rfl⟩ := Option.map_eq_some_iff.mp h
      exact body_of_readTally hupper ht
    · split at h
      · next hupper =>
        obtain ⟨j, hj, rfl⟩ := Option.map_eq_some_iff.mp h
        exact body_of_readJoin hupper hj
      · cases h

end Sys2Proof.Machine
end

section
/-! PROOF. Frame checks: the CRC is a linear register, so that no single altered byte escapes it (R48), and
R51's checks on the run of a whole frame, a cut one, a lengthened one and any run whatever. -/

namespace Sys2Proof.Machine

-- One theorem after another: each proof checked beside another takes a thread with memory of its own.
set_option Elab.async false

/-! ### The CRC register is linear (R48) -/

/-- R48: the polynomial, taken in when the bit that leaves the register differs from the one taken in. -/
def crcMask (differs : Bool) : BitVec 16 := if differs then 0x1021 else 0

theorem crcMask_xor (x y : Bool) : crcMask (x ^^ y) = crcMask x ^^^ crcMask y := by
  revert x y
  decide

theorem crcBit_eq (r : BitVec 16) (x : Bool) :
    crcBit r x = r <<< 1 ^^^ crcMask (x ^^ r.getLsbD 15) := by
  unfold crcBit crcMask
  dsimp only
  split
  · rfl
  · exact (BitVec.xor_zero ..).symm

theorem crcBit_xor (r q : BitVec 16) (x y : Bool) :
    crcBit (r ^^^ q) (x ^^ y) = crcBit r x ^^^ crcBit q y := by
  simp only [crcBit_eq, BitVec.getLsbD_xor, crcMask_xor, BitVec.shiftLeft_xor_distrib]
  ac_rfl

theorem crcByte_xor (r q : BitVec 16) (b c : Byte) :
    crcByte (r ^^^ q) (b ^^^ c) = crcByte r b ^^^ crcByte q c := by
  simp only [crcByte, List.foldl_cons, List.foldl_nil, BitVec.getLsbD_xor, crcBit_xor]

/-- Bit 0 tells whether the polynomial was taken in, the other bits are the register's. -/
theorem crcBit_eq_zero {r : BitVec 16} (h : crcBit r false = 0) : r = 0 := by
  rw [crcBit_eq] at h
  have hbit : ∀ j < 16, (r <<< 1).getLsbD j = (crcMask (false ^^ r.getLsbD 15)).getLsbD j := by
    intro j hj
    rw [BitVec.xor_eq_zero_iff.mp h]
  have htop : r.getLsbD 15 = false := by
    have h0 := hbit 0 (by decide)
    cases htop : r.getLsbD 15 with
    | false => rfl
    | true => rw [htop] at h0; simp [crcMask] at h0
  refine BitVec.eq_of_getLsbD_eq fun j hj => ?_
  by_cases h15 : j = 15
  · rw [h15, htop]
    rfl
  · have hj1 := hbit (j + 1) (by omega)
    rw [htop, BitVec.getLsbD_shiftLeft] at hj1
    simpa [crcMask, show j + 1 < 16 by omega] using hj1

theorem crcByte_zero_byte {r : BitVec 16} (h : crcByte r 0 = 0) : r = 0 := by
  simp only [crcByte, List.foldl_cons, List.foldl_nil] at h
  exact crcBit_eq_zero (crcBit_eq_zero (crcBit_eq_zero (crcBit_eq_zero (crcBit_eq_zero
    (crcBit_eq_zero (crcBit_eq_zero (crcBit_eq_zero h)))))))

theorem crcByte_zero_register {b : Byte} (h : crcByte 0 b = 0) : b = 0 := by
  have hall : ∀ x : Byte, crcByte 0 x = 0 → x = 0 := by decide
  exact hall b h

/-- Different registers stay different under the same byte. -/
theorem crcByte_inj_register {r q : BitVec 16} {b : Byte} (h : crcByte r b = crcByte q b) :
    r = q := by
  have hdiff := crcByte_xor r q b b
  rw [h, BitVec.xor_self, BitVec.xor_self] at hdiff
  exact BitVec.xor_eq_zero_iff.mp (crcByte_zero_byte hdiff)

/-- Different bytes take one register to different ones. -/
theorem crcByte_inj_byte {r : BitVec 16} {b c : Byte} (h : crcByte r b = crcByte r c) : b = c := by
  have hdiff := crcByte_xor r r b c
  rw [h, BitVec.xor_self, BitVec.xor_self] at hdiff
  exact BitVec.xor_eq_zero_iff.mp (crcByte_zero_register hdiff)

theorem crcFrom_inj_register {r q : BitVec 16} {bytes : List Byte}
    (h : crcFrom r bytes = crcFrom q bytes) : r = q := by
  induction bytes generalizing r q with
  | nil => exact h
  | cons b bytes ih => exact crcByte_inj_register (ih h)

/-- R48: a register that has seen one altered byte is another register. -/
theorem crcFrom_set_ne (r : BitVec 16) {bytes : List Byte} {i : Nat} (hi : i < bytes.length)
    {b : Byte} (hb : bytes.getD i 0 ≠ b) : crcFrom r (bytes.set i b) ≠ crcFrom r bytes := by
  induction bytes generalizing r i with
  | nil => exact absurd hi (Nat.not_lt_zero i)
  | cons c bytes ih =>
    cases i with
    | zero => exact fun heq => hb (crcByte_inj_byte (crcFrom_inj_register heq)).symm
    | succ i => exact ih (crcByte r c) (Nat.lt_of_succ_lt_succ hi) hb

theorem crcMatches_iff (bytes : List Byte) :
    crcMatches bytes = true ↔
      bytes2 (frameCrc (bytes.take (bytes.length - 2))) = bytes.drop (bytes.length - 2) := by
  simp [crcMatches]

/-- Settles O28: an altered byte of the body changes the CRC and leaves its two bytes; an altered byte of
the CRC leaves the body's CRC. -/
theorem alteredByteFailsCrc : Obligations.AlteredByteFailsCrc := by
  intro bytes i b hlen hi hb hmatch
  rw [← Bool.not_eq_true, crcMatches_iff, List.length_set]
  rw [crcMatches_iff] at hmatch
  intro haltered
  by_cases hbody : i < bytes.length - 2
  · rw [List.take_set, List.drop_set, if_pos hbody, ← hmatch] at haltered
    refine crcFrom_set_ne 0xFFFF (by rw [List.length_take]; omega) ?_ (bytes2_inj haltered)
    rwa [List.getD_eq_getElem?_getD, List.getElem?_take_of_lt hbody, ← List.getD_eq_getElem?_getD]
  · rw [List.take_set, List.set_eq_of_length_le (by rw [List.length_take]; omega), List.drop_set,
      if_neg hbody, hmatch] at haltered
    have hlast := congrArg (fun l => l.getD (i - (bytes.length - 2)) 0) haltered
    have hpos : bytes.length - 2 + (i - (bytes.length - 2)) = i := by omega
    simp only [List.getD_eq_getElem?_getD, List.getElem?_drop, hpos, List.getElem?_set_self',
      List.getElem?_eq_getElem hi, Option.map_eq_map, Option.map_some, Option.getD_some,
      Function.const_apply] at hlast hb
    exact hb hlast

/-! ### R51's checks in their order -/

theorem namesKind_iff (bytes : List Byte) : namesKind bytes = true ↔
    (bytes.getD 0 0).extractLsb' 4 4 = 0xA#4 ∨ (bytes.getD 0 0).extractLsb' 4 4 = 0x6#4 := by
  simp [namesKind]

section checks

variable (slot : Option Nat) (count : Nat) (tag : Byte) {n d : Nat} {bytes : List Byte}

theorem judgeRun_lowStop : judgeRun slot count tag n true bytes = .bad .framing := rfl

theorem judgeRun_format (hkind : ¬ namesKind bytes = true) :
    judgeRun slot count tag n false bytes = .bad .format := by
  simp [judgeRun, hkind]

/-- Check 3: the run ended before its declared length. -/
theorem judgeRun_framing (hkind : namesKind bytes = true)
    (hshort : declaredLength bytes n = none ∨ (declaredLength bytes n = some d ∧ n < d)) :
    judgeRun slot count tag n false bytes = .bad .framing := by
  have hreach : reachesLength bytes n = false := by
    obtain h | ⟨h, hlt⟩ := hshort
    · simp [reachesLength, h]
    · simpa [reachesLength, h] using hlt
  simp [judgeRun, hkind, hreach]

/-- Check 4: the run went on past its declared length. -/
theorem judgeRun_length (hkind : namesKind bytes = true) (hd : declaredLength bytes n = some d)
    (hle : d ≤ n) (hlong : d < n ∨ 93 < n) :
    judgeRun slot count tag n false bytes = .bad .length := by
  have hreach : reachesLength bytes n = true := by simpa [reachesLength, hd] using hle
  have hwithin : withinLength bytes n = false := by
    simp only [withinLength, hd, Bool.and_eq_false_iff, decide_eq_false_iff_not]
    omega
  simp [judgeRun, hkind, hreach, hwithin]

/-- The checks behind the length, for a run of just its declared length. -/
theorem judgeRun_whole (hkind : namesKind bytes = true) (hd : declaredLength bytes n = some n)
    (h93 : n ≤ 93) : judgeRun slot count tag n false bytes =
      if crcMatches bytes = false then .bad .crc
      else if senderFits slot count tag bytes = false then .bad .sender
      else match readFrame bytes with
        | some f => .intact f (f.tag = tag)
        | none => .bad .format := by
  have hreach : reachesLength bytes n = true := by simp [reachesLength, hd]
  have hwithin : withinLength bytes n = true := by simpa [withinLength, hd] using h93
  simp [judgeRun, hkind, hreach, hwithin] <;> rfl

/-- Check 6, in a slot: the sender is the slot's owner. -/
theorem senderFits_slot (owner : Nat) :
    senderFits (some owner) count tag bytes = decide (senderOf (bytes.getD 0 0) = owner) := rfl

/-- Check 6, without slots: a frame with the station's tag has a sender below N. -/
theorem senderFits_noSlot : senderFits none count tag bytes =
    !(bytes.getD 3 0 = tag && count ≤ senderOf (bytes.getD 0 0)) := rfl

end checks

/-! ### The run of a frame -/

theorem crcMatches_withCrc (body : List Byte) : crcMatches (withCrc body) = true := by
  rw [crcMatches_iff]
  have hlen : (withCrc body).length - 2 = body.length := by
    rw [withCrc, List.length_append]
    exact Nat.add_sub_cancel ..
  rw [hlen, withCrc, List.take_left, List.drop_left]

theorem Frame.length_le {f : Frame} (h : f.WellFormed) : 7 ≤ f.length ∧ f.length ≤ 93 := by
  cases f with
  | join j => exact ⟨le_rfl, by simp [Frame.length]⟩
  | tally t =>
    obtain ⟨-, hfour, -⟩ := h
    simp only [Frame.length]
    split <;> omega

theorem Frame.length_eq_seven_or (f : Frame) : f.length = 7 ∨ 9 ≤ f.length := by
  cases f with
  | join j => exact .inl rfl
  | tally t => refine .inr ?_; simp only [Frame.length]; split <;> omega

/-- A judgement reads the first and the ninth byte only up to the length. -/
theorem declaredLength_take (bytes : List Byte) {k n : Nat} (hk : 1 ≤ k) (h9 : n < 9 ∨ 9 ≤ k) :
    declaredLength (bytes.take k) n = declaredLength bytes n := by
  have hbyte : ∀ i < k, (bytes.take k).getD i 0 = bytes.getD i 0 := by
    intro i hi
    rw [List.getD_eq_getElem?_getD, List.getElem?_take_of_lt hi, List.getD_eq_getElem?_getD]
  unfold declaredLength
  rw [hbyte 0 hk]
  split
  · rfl
  · split
    · rfl
    · rw [hbyte 8 (by omega)]

theorem namesKind_take (bytes : List Byte) {k : Nat} (hk : 1 ≤ k) :
    namesKind (bytes.take k) = namesKind bytes := by
  cases bytes with
  | nil => rw [List.take_nil]
  | cons b bytes => obtain ⟨k, rfl⟩ := Nat.exists_eq_add_of_le' hk; rfl

theorem Frame.declaredLength_bytes {f : Frame} (h : f.WellFormed) (more : List Byte) {n : Nat}
    (hn : f.length ≤ n ∨ 9 ≤ n) : declaredLength (f.bytes ++ more) n = some f.length := by
  rw [f.bytes_eq, withCrc, List.append_assoc]
  exact Frame.declaredLength_body h _ (by have := f.length_eq_seven_or; omega)

theorem Frame.namesKind_bytes {f : Frame} (h : f.WellFormed) (more : List Byte) :
    namesKind (f.bytes ++ more) = true := by
  rw [f.bytes_eq, withCrc, List.append_assoc]
  exact (Frame.body_head h _).1

/-- R51: the run of a whole frame: only its sender and its tag are left to judge. -/
theorem judgeRun_bytes {f : Frame} (h : f.WellFormed) (slot : Option Nat) (count : Nat) (tag : Byte) :
    judgeRun slot count tag f.length false f.bytes =
      if senderFits slot count tag f.bytes = false then .bad .sender
      else .intact f (decide (f.tag = tag)) := by
  have hkind := Frame.namesKind_bytes h []
  have hd := Frame.declaredLength_bytes h [] (n := f.length) (.inl le_rfl)
  rw [List.append_nil] at hkind hd
  have hcrc : crcMatches f.bytes = true := f.bytes_eq ▸ crcMatches_withCrc _
  have hread : readFrame f.bytes = some f := f.bytes_eq ▸ readFrame_body h _
  rw [judgeRun_whole slot count tag hkind hd (Frame.length_le h).2, hcrc, hread]
  rfl

theorem Frame.bytes_head {f : Frame} (h : f.WellFormed) :
    senderOf (f.bytes.getD 0 0) = f.sender ∧ f.bytes.getD 3 0 = f.tag := by
  rw [f.bytes_eq]
  exact (Frame.body_head h _).2

/-- R51, R53: in its sender's slot the run of a frame is INTACT, with the tag match mark. -/
theorem judgeRun_bytes_own {f : Frame} (h : f.WellFormed) (count : Nat) (tag : Byte) :
    judgeRun (some f.sender) count tag f.length false f.bytes =
      .intact f (decide (f.tag = tag)) := by
  rw [judgeRun_bytes h, senderFits_slot, (Frame.bytes_head h).1]
  simp

theorem judgeRun_bytes_other {f : Frame} (h : f.WellFormed) (count : Nat) (tag : Byte) {owner : Nat}
    (ho : owner ≠ f.sender) :
    judgeRun (some owner) count tag f.length false f.bytes = .bad .sender := by
  rw [judgeRun_bytes h, senderFits_slot, (Frame.bytes_head h).1]
  simp [ho.symm]

theorem judgeRun_bytes_noSlot {f : Frame} (h : f.WellFormed) (count : Nat) (tag : Byte) :
    judgeRun none count tag f.length false f.bytes =
      if f.tag = tag ∧ count ≤ f.sender then .bad .sender
      else .intact f (decide (f.tag = tag)) := by
  rw [judgeRun_bytes h, senderFits_noSlot, (Frame.bytes_head h).1, (Frame.bytes_head h).2]
  simp

/-- R51: a frame cut short. -/
theorem judgeRun_bytes_take {f : Frame} (h : f.WellFormed) (slot : Option Nat) (count : Nat)
    (tag : Byte) {k : Nat} (hk : 1 ≤ k) (hlt : k < f.length) :
    judgeRun slot count tag k false (f.bytes.take k) = .bad .framing := by
  have hkind := Frame.namesKind_bytes h []
  rw [List.append_nil] at hkind
  refine judgeRun_framing (d := f.length) slot count tag ((namesKind_take _ hk).trans hkind) ?_
  rw [declaredLength_take _ hk (by omega)]
  by_cases h9 : 9 ≤ k
  · have hd := Frame.declaredLength_bytes h [] (.inr h9)
    rw [List.append_nil] at hd
    exact .inr ⟨hd, hlt⟩
  · cases f with
    | join j =>
      have hd := Frame.declaredLength_body h (bytes2 (frameCrc (Frame.join j).body)) (n := k)
        (.inr rfl)
      exact .inr ⟨hd, hlt⟩
    | tally t =>
      refine .inl ?_
      have hupper := (tallyFirst_fields h.1).1
      rw [Frame.bytes_eq, withCrc]
      show declaredLength (t.body ++ _) k = none
      rw [tallyBody_append]
      simp [declaredLength, hupper]
      omega

/-- R51: a frame with characters behind it. -/
theorem judgeRun_bytes_more {f : Frame} (h : f.WellFormed) (slot : Option Nat) (count : Nat)
    (tag : Byte) {more : List Byte} (hmore : more ≠ []) :
    judgeRun slot count tag (f.length + more.length) false ((f.bytes ++ more).take 93) =
      .bad .length := by
  have hpos := List.length_pos_iff.mpr hmore
  refine judgeRun_length slot count tag (d := f.length)
    ((namesKind_take _ (by decide)).trans (Frame.namesKind_bytes h more)) ?_ (by omega) (by omega)
  rw [declaredLength_take _ (by decide) (by omega)]
  exact Frame.declaredLength_bytes h more (.inl (by omega))

/-- R51 to R53: an INTACT run is the run of a frame. -/
theorem frame_of_judgeRun_intact {slot : Option Nat} {count n : Nat} {tag : Byte}
    {bytes : List Byte} {g : Frame} {m : Bool} (hlen : bytes.length = min n 93)
    (h : judgeRun slot count tag n false bytes = .intact g m) :
    g.WellFormed ∧ bytes = g.bytes ∧ n = g.length ∧ m = decide (g.tag = tag) := by
  obtain ⟨-, hkind, hreach, hwithin, hcrc, -, hread, hm⟩ := judgeRun_intact _ _ _ _ _ _ _ _ h
  obtain ⟨hwf, rest, hrest⟩ := body_of_readFrame hread
  have hbody : g.body.length ≤ n := by
    have hlong := congrArg List.length hrest
    rw [List.length_append] at hlong
    omega
  have hdeclared : declaredLength bytes n = some g.length := by
    rw [hrest]
    refine Frame.declaredLength_body hwf rest ?_
    have htwo := g.body_length
    cases g with
    | join j => exact .inr rfl
    | tally t =>
      refine .inl ?_
      have heleven : 11 ≤ (Frame.tally t).length := by simp only [Frame.length]; split <;> omega
      omega
  have hn : n = g.length := by
    simp only [reachesLength, withinLength, hdeclared, Bool.and_eq_true, decide_eq_true_eq]
      at hreach hwithin
    omega
  have h93 := (Frame.length_le hwf).2
  have htrail : bytes.length - 2 = g.body.length := by
    have htwo := g.body_length
    omega
  rw [crcMatches_iff, htrail, hrest, List.take_left, List.drop_left] at hcrc
  refine ⟨hwf, ?_, hn, hm⟩
  rw [g.bytes_eq, withCrc, hcrc, hrest]

/-- Settles O27: the run of a frame in each of its forms, and each of R51's checks as the first to fail. -/
theorem runOfFrameIsJudged : Obligations.RunOfFrameIsJudged := by
  intro f count tag owner k more slot bytes n d upper sender g m hupper hsender
  subst hupper hsender
  refine ⟨fun hf => ⟨judgeRun_bytes_own hf count tag, judgeRun_bytes_other hf count tag,
      judgeRun_bytes_take hf _ count tag, judgeRun_bytes_more hf _ count tag,
      judgeRun_lowStop _ count tag⟩,
    judgeRun_lowStop slot count tag, fun hA h6 => judgeRun_format slot count tag ?_, fun h6 => ?_,
    fun hA hn => ?_, fun hA hn => ?_, fun hkind => ⟨?framing, ?length, ?whole⟩,
    frame_of_judgeRun_intact⟩
  · rw [namesKind_iff]
    exact not_or.mpr ⟨hA, h6⟩
  · simp only [declaredLength, h6, if_true]
  · simp only [declaredLength, hA, hn, if_true]
    rfl
  · simp only [declaredLength, hA, Nat.not_lt.mpr hn, if_false]
    rfl
  case framing =>
    exact judgeRun_framing slot count tag ((namesKind_iff bytes).mpr hkind)
  case length =>
    exact judgeRun_length slot count tag ((namesKind_iff bytes).mpr hkind)
  case whole =>
    intro hd h93
    rw [judgeRun_whole slot count tag ((namesKind_iff bytes).mpr hkind) hd h93]
    refine ⟨fun hcrc => by rw [hcrc]; rfl, fun hcrc => ⟨fun hslot => ?_, fun hslot => ?_⟩⟩
    · have hfits : senderFits slot count tag bytes = false := by
        obtain ⟨rfl, hother⟩ | ⟨rfl, htag, hcount⟩ := hslot
        · exact decide_eq_false hother.symm
        · have hbeyond : count ≤ senderOf (bytes.getD 0 0) := hcount
          simp only [senderFits_noSlot, htag, hbeyond, decide_true, Bool.and_self, Bool.not_true]
      rw [hcrc, hfits]
      rfl
    · have hfits : senderFits slot count tag bytes = true := by
        obtain rfl | ⟨rfl, hother⟩ := hslot
        · exact decide_eq_true rfl
        · rw [senderFits_noSlot]
          simpa [senderOf, or_iff_not_imp_left] using hother
      rw [hcrc, hfits]
      exact ⟨fun hnone => by rw [hnone]; rfl, fun hsome => by rw [hsome]; rfl⟩

end Sys2Proof.Machine
end

section
/-! PROOF. The host port: a step and its command, the resets (R174 to R176), select periods and their
bytes (R163 to R165), and the statements about the requests STATUS, START, LEAVE, RESET and TAKE EVENT. -/

namespace Sys2Proof.Machine

-- One theorem after another: each proof checked beside another takes a thread with memory of its own.
set_option Elab.async false

/-! ### Steps and resets -/

theorem step_cons {s : State} {c : Instr} {rest : List Instr} (h : s.pending = c :: rest) :
    step s = exec c { s with pending := rest } := by
  simp only [step, h]

theorem step_nil {s : State} (h : s.pending = []) : step s = .next s.tick := by
  simp only [step, h]

/-- Settles O1: the queue is empty or has a front command. -/
theorem stepRunsFrontCommand : Obligations.StepRunsFrontCommand :=
  fun _ _ _ => ⟨step_cons, step_nil⟩

/-- Settles O3: after power-on every list is empty, every set and count 0, and the state UNCONFIGURED. -/
theorem resetIsLawful : Obligations.ResetIsLawful where
  config := ⟨rfl, rfl, rfl⟩
  event := by unfold State.EventLaw; decide
  failure := by unfold State.FailureLaw; decide
  view := by unfold State.ViewLaw; decide
  count := by unfold State.CountLaw; decide
  post := by unfold State.PostLaw; decide
  schedule := by unfold State.ScheduleLaw; decide
  quiet := by unfold State.QuietLaw; decide
  timer := by unfold State.TimerLaw; decide
  leave := by unfold State.LeaveLaw; decide
  send := by unfold State.SendLaw; decide
  join := by unfold State.JoinLaw; decide
  serving := trivial
  receiving := by show State.reset.controller.state ≠ .receiving; decide
  watch := by unfold State.WatchLaw; decide
  port := by unfold State.PortLaw; decide

/-- Settles O4: the reset values of each block, the lines and the queue kept. -/
theorem hardResetsLeaveResetValues : Obligations.HardResetsLeaveResetValues :=
  fun _ => ⟨rfl, rfl, rfl⟩

/-! ### The summary byte (R164) -/

/-- R164: the state code in bits 0 to 2, the event bit, the stale bit. -/
theorem summary_fields (st : StationState) (queued stale : Bool) (b : Byte)
    (h : b = byteOf (stateCode st + (if queued then 8 else 0) + (if stale then 16 else 0))) :
    b.extractLsb' 0 3 = BitVec.ofNat 3 (stateCode st) ∧ b.getLsbD 3 = queued ∧
      b.getLsbD 4 = stale ∧ b.extractLsb' 5 3 = 0 := by
  subst h
  cases st <;> revert queued stale <;> decide

/-- Settles O5: the three ways CSn can fall. -/
theorem selectStartCapturesSummary : Obligations.SelectStartCapturesSummary := by
  intro s
  refine ⟨fun hcsn hresetn => ?_, fun hcsn hresetn => ?_, fun hcsn => ?_⟩
  · have hstart : exec .selectStart s = .next
        { s with host := { s.host with csn := false, phase := .code, summary := s.summaryByte } } := by
      simp [exec, execSelectStart, hcsn, hresetn]
    obtain ⟨hstate, hqueued, hstale, hzero⟩ :=
      summary_fields s.controller.state s.atn s.stale s.summaryByte rfl
    exact ⟨_, hstart, rfl, hstate, hqueued, hstale, hzero, rfl⟩
  · simp [exec, execSelectStart, hcsn, hresetn]
  · simp [exec, execSelectStart, hcsn]

/-! ### Phases (R163, R165) -/

/-- Settles O7: a request command only shifts bytes, which start nothing in these phases. -/
theorem noRequestOutsideItsPhase : Obligations.NoRequestOutsideItsPhase := by
  intro i s code params r n hi hphase
  obtain ⟨⟨c, bytes⟩, hrequest⟩ := Option.ne_none_iff_exists'.mp hi
  rw [exec_eq_shiftRequest hrequest]
  obtain h | h := hphase <;> simp only [State.shiftRequest, h]

/-- R165: a select period that ends without a pending RESET leaves the station as it is. -/
theorem exec_selectEnd_plain {s : State} (hcsn : s.host.csn = false)
    (hreset : s.host.resetPending = false) :
    exec .selectEnd s = .next { s with host := { s.host with csn := true, phase := .idle } } := by
  rw [exec_selectEnd_low s hcsn, hreset, ← hreset]
  simp [State.endSelect, hreset]

/-- Settles O8: an incomplete request stands in the phase only; an unknown code has no parameters. -/
theorem discardedAndMalformedRequests : Obligations.DiscardedAndMalformedRequests := by
  intro i s code params p hs
  refine ⟨fun hcsn hreset hi hp hshort => ?_, fun hnone => ?_⟩
  · have hgather : s.shiftRequest code params = s.setPhase (.parameters code params) := by
      have hphase : s.host.phase = .code := hs
      simp [State.shiftRequest, hphase, State.gather, hp, Nat.not_le.mpr hshort]
    refine ⟨_, by rw [exec_eq_shiftRequest hi, hgather], ?_⟩
    exact exec_selectEnd_plain (s := s.setPhase (.parameters code params)) hcsn hreset
  · have hclaim : s.claim code [] = (s, ⟨.malformed, []⟩) := by
      unfold requestParameters at hnone
      unfold State.claim
      split at hnone
      case h_14 => simp_all [Reply.only]
      all_goals cases hnone
    exact exec_request (i := .malformed code) rfl hs (by simp [hnone]) hclaim

/-- Settles O9: the byte of each exchange by its place. -/
theorem replyShiftsOut : Obligations.ReplyShiftsOut := by
  intro s code params r n k hcsn hphase
  refine ⟨by simp [State.sdoByte, hcsn, hphase], fun h1 hk => ?_, ?_, ?_⟩
  · have hne : k ≠ 0 := by omega
    simp [State.sdoByte, hcsn, hphase, hne, hk]
  · have hlong : ¬ params.length + 1 ≤ params.length := by omega
    simp [State.sdoByte, hcsn, hphase, hlong]
  · have hlong : ¬ params.length + 2 + k ≤ params.length := by omega
    have hplace : params.length + 2 + k - params.length - 1 = k + 1 := by omega
    simp [State.sdoByte, hcsn, hphase, hlong, hplace]

/-! ### RESET (R174, R175) -/

/-- Settles O6: the request sets a mark, which SELECT_END acts on. -/
theorem resetTakesEffectAtSelectEnd : Obligations.ResetTakesEffectAtSelectEnd := by
  intro s
  refine ⟨fun hs => exec_request rfl hs rfl rfl, exec_selectEnd_plain, fun hcsn hreset => ?_,
    fun hcsn => ?_⟩
  · rw [exec_selectEnd_low s hcsn, if_pos hreset]
    unfold State.requestReset stateAfterReset
    by_cases hstate : s.controller.state = .unconfigured
    · simp only [State.endSelect, hstate, if_true]
      rfl
    · simp only [State.endSelect, hstate, if_false]
      rfl
  · simp [exec, execSelectEnd, hcsn]

/-! ### STATUS (R171, R172) -/

theorem queued_eq (p : Post) : p.queued = decide (p.status = .queued) := by
  unfold Post.queued
  split <;> simp [*]

theorem latchByte_eq (l : Latches) :
    latchByte l =
      BitVec.ofNat 8 (l.viewChanged.toNat + 2 * l.excluded.toNat + 4 * l.foreign.toNat) := by
  obtain ⟨viewChanged, excluded, foreign⟩ := l
  revert viewChanged excluded foreign
  decide

theorem latchByte_bits (l : Latches) : (latchByte l).getLsbD 0 = l.viewChanged ∧
    (latchByte l).getLsbD 1 = l.excluded ∧ (latchByte l).getLsbD 2 = l.foreign := by
  obtain ⟨viewChanged, excluded, foreign⟩ := l
  revert viewChanged excluded foreign
  decide

/-- R172: LATCH_CLEAR clears each reported latch whose capture mark is clear. -/
theorem exec_latchClear_report {u : State} {params fields : List Byte} {reported : Latches}
    {result : ResultCode} (hphase : u.host.phase = .reply 0x01 params ⟨result, fields⟩ 0)
    (hbyte : fields.getD 14 0 = latchByte reported) :
    exec .latchClear u = .next { u with host := { u.host with
      phase := .reply 0x01 params ⟨result, fields⟩ 16
      latches := ⟨u.host.latches.viewChanged &&
          !(reported.viewChanged && !u.host.marks.viewChanged),
        u.host.latches.excluded && !(reported.excluded && !u.host.marks.excluded),
        u.host.latches.foreign && !(reported.foreign && !u.host.marks.foreign)⟩ } } := by
  obtain ⟨h0, h1, h2⟩ := latchByte_bits reported
  simp only [exec, execLatchClear, hphase, Latches.clearedBy, hbyte, h0, h1, h2]
  rfl

/-- The station after STATUS: the marks of the reported latches cleared, the report captured. -/
def State.reporting (s : State) : State :=
  s.claimStatus.1.setPhase (.reply 0x01 [] (.ok s.statusFields) 0)

theorem exec_status {s : State} (hs : s.awaitsCode) : exec .status s = .next s.reporting :=
  exec_request (i := .status) rfl hs rfl rfl

theorem latches_congr {a b c x y z : Bool} (ha : a = x) (hb : b = y) (hc : c = z) :
    Latches.mk a b c = ⟨x, y, z⟩ := by
  rw [ha, hb, hc]

/-- R172: a latch not set again since its capture ends up clear, whatever mark stood before. -/
theorem reported_cleared (latch mark : Bool) :
    (latch && !(latch && !(mark && !latch))) = false := by
  revert latch mark
  decide

/-- R172: a latch set again stays set. -/
theorem setAgain_kept (latch mark : Bool) :
    (true && !(latch && !((mark && !latch) || true))) = true := by
  revert latch mark
  decide

theorem statusFields_latchByte (s : State) : s.statusFields.getD 14 0 = latchByte s.host.latches :=
  rfl

/-- Settles O10: the report, and the clearing of its latches with and without an occasion between. -/
theorem statusReportsAndClears : Obligations.StatusReportsAndClears := by
  intro s hs
  refine ⟨?report, s.reporting, exec_status hs,
    ⟨_, exec_latchClear_report rfl (statusFields_latchByte s), rfl, ?cleared⟩,
    ⟨_, exec_latchClear_report rfl (statusFields_latchByte s), ?viewChanged⟩,
    ⟨_, exec_latchClear_report rfl (statusFields_latchByte s), ?excluded⟩,
    ⟨_, exec_latchClear_report rfl (statusFields_latchByte s), ?foreign⟩, ?short⟩
  case report =>
    rw [exec_status hs]
    have hqueued : s.posts.queuedPosts =
        s.posts.posts.filter fun (p : Post) => p.status = PostStatus.queued :=
      List.filter_congr fun p _ => queued_eq p
    have hsent : s.posts.sentPosts =
        s.posts.posts.filter fun (p : Post) => p.status ≠ PostStatus.queued :=
      List.filter_congr fun p _ => by rw [queued_eq]; simp
    rw [← hqueued, ← hsent, ← latchByte_eq]
    rfl
  case cleared =>
    exact latches_congr (reported_cleared _ _) (reported_cleared _ _) (reported_cleared _ _)
  case viewChanged =>
    exact latches_congr (setAgain_kept _ _) (reported_cleared _ _) (reported_cleared _ _)
  case excluded =>
    exact latches_congr (reported_cleared _ _) (setAgain_kept _ _) (reported_cleared _ _)
  case foreign =>
    exact latches_congr (reported_cleared _ _) (reported_cleared _ _) (setAgain_kept _ _)
  case short =>
    intro hcsn hreset
    exact ⟨_, _, exec_selectEnd_plain (s := s.reporting) hcsn hreset, rfl, rfl⟩

/-! ### START and LEAVE (R102, R112, R114) -/

/-- Settles O12: the state decides, and LISTEN is entered with everything stopped. -/
theorem startEntersListen : Obligations.StartEntersListen := by
  intro s hs
  have hstartable : s.controller.state.startable = true ↔ s.controller.state = .ready ∨
      s.controller.state = .standby ∨ s.controller.state = .halted := by
    cases s.controller.state <;> simp [StationState.startable]
  refine ⟨fun hstate => exec_request (i := .start) rfl hs rfl ?_,
    fun hstate => exec_request (i := .start) rfl hs rfl ?_⟩
  · show s.claimStart = _
    rw [State.claimStart, if_pos (hstartable.mpr hstate)]
    rfl
  · show s.claimStart = _
    rw [State.claimStart, if_neg (mt hstartable.mp hstate)]
    rfl

theorem exec_leave {s t : State} {result : ResultCode} (hs : s.awaitsCode)
    (hclaim : s.claimLeave = (t, ⟨result, []⟩)) :
    exec .leave s = .next (t.answering 0x04 [] result []) :=
  exec_request (i := .leave) rfl hs rfl hclaim

/-- R112, R114: a joiner whose JOIN is on the line waits for its end. -/
theorem claimLeave_waiting {s : State}
    (hstate : s.controller.state = .joining ∨ s.controller.state = .receiving)
    (htx : s.bus.tx = .sending) :
    s.claimLeave =
      ({ s with controller := { s.controller with leaveAtTxEnd := true } }, ⟨.ok, []⟩) := by
  obtain h | h := hstate <;> simp only [State.claimLeave, State.leaveJoiner, h, htx] <;> rfl

/-- R112: STANDBY at once. -/
theorem claimLeave_atOnce {s : State} (hstate : s.controller.state = .listen ∨
      ((s.controller.state = .joining ∨ s.controller.state = .receiving) ∧ s.bus.tx ≠ .sending)) :
    s.claimLeave = (s.enterStandby, ⟨.ok, []⟩) := by
  obtain h | ⟨h | h, htx⟩ := hstate
  · simp only [State.claimLeave, h]
    rfl
  · simp only [State.claimLeave, State.leaveJoiner, h, if_neg htx]
    rfl
  · simp only [State.claimLeave, State.leaveJoiner, h, if_neg htx]
    rfl

/-- R34, R114: the end of the last stop bit of a JOIN with a LEAVE waiting for it. -/
theorem exec_transmissionEnd_leaving {s : State} (htx : s.bus.tx = .sending)
    (hleave : s.controller.leaveAtTxEnd = true) :
    exec .transmissionEnd s = .next
      { s with
        bus := ⟨false, 0, s.bus.slot, s.bus.round, .silent, false, false, none, [], .idle⟩
        frameCheck := ⟨[], [], s.frameCheck.tag, none⟩
        controller := ⟨.standby, s.controller.failures, 0, 0, 0, false, false⟩
        transfer := ⟨[], none, none⟩
        rxd := s.rxd.later (s.timeToReading (16 * (32 + 10 * s.frameCheck.transmit.length)))
        events := arrive s.events (stateChanged s.bus.round s.bus.slot s.stationNumber
          .hostLeave .standby s.controller.failures) } := by
  have hwaits : (s.passTo s.transmissionEndsAt).controller.leaveAtTxEnd = true := hleave
  have hends : s.transmissionEndsAt = 16 * (32 + 10 * s.frameCheck.transmit.length) := by
    simp [State.transmissionEndsAt, bits]
  simp only [exec, execTransmissionEnd, htx, if_true, State.finishTransmission, hwaits, ← hends]
  rfl

/-- Settles O13: the claim by the state; the waiting LEAVE is taken by TRANSMISSION_END. -/
theorem leaveByState : Obligations.LeaveByState := by
  intro s hs
  refine ⟨fun hstate => exec_leave hs ?_, fun hstate => exec_leave hs (claimLeave_atOnce hstate),
    fun ⟨hstate, htx⟩ => ?_, fun hstate => exec_leave hs ?_⟩
  · simp only [State.claimLeave, hstate]
    rfl
  · have hleave := exec_leave hs (claimLeave_waiting hstate htx)
    exact ⟨hleave, _, hleave, exec_transmissionEnd_leaving htx rfl⟩
  · cases h : s.controller.state <;> simp only [h, StationState.active, reduceCtorEq] at hstate <;>
      simp only [State.claimLeave, h] <;> rfl

/-! ### TAKE EVENT (R157, R158) -/

/-- R157: the record captured leaves the head of the queue once. -/
theorem exec_eventRemoval_due {u : State} {params fields : List Byte}
    (hphase : u.host.phase = .reply 0x40 params ⟨.ok, fields⟩ 0) :
    exec .eventRemoval u = .next { u with
      events := u.events.tail
      host := { u.host with phase := .reply 0x40 params ⟨.ok, fields⟩ 15 } } := by
  simp only [exec, execEventRemoval, hphase]
  rfl

/-- Settles O21: the claim captures the head, the removal takes the head of the queue as it is then. -/
theorem takeEventThenRemoval : Obligations.TakeEventThenRemoval := by
  intro s e x rest hs
  refine ⟨fun hevents => ?_, fun hevents => ⟨exec_request (i := .takeEvent) rfl hs rfl ?_, rfl⟩⟩
  · have hclaim : s.claim 0x40 [] = (s, ⟨.ok, e.bytes⟩) := by
      show s.claimTakeEvent = _
      simp only [State.claimTakeEvent, hevents, Reply.ok]
    refine ⟨_, exec_request (i := .takeEvent) rfl hs rfl hclaim, rfl,
      ⟨_, exec_eventRemoval_due rfl, ?_, rfl⟩, ⟨_, exec_eventRemoval_due rfl, rfl⟩,
      fun hcsn hreset => ⟨_, exec_selectEnd_plain (s := s.answering ..) hcsn hreset, rfl, rfl⟩⟩
    have htail : (s.answering 0x40 [] .ok e.bytes).events.tail = rest := congrArg List.tail hevents
    rw [htail]
  · show s.claimTakeEvent = _
    simp only [State.claimTakeEvent, hevents, Reply.only]

end Sys2Proof.Machine
end

section
/-! PROOF. The slot boundary: what the time until it leaves (R27), how the next slot begins with the timer
corrected (R30, R32), the changes of the station state written out (R102, R110 to R115), and the own slot
start of a joiner (R108, R135). -/

namespace Sys2Proof.Machine

-- One theorem after another: each proof checked beside another takes a thread with memory of its own.
set_option Elab.async false

/-! ### Changes of the station state, written out -/

theorem enterListen_eq (s : State) (cause : ChangeCause) : s.enterListen cause = { s with
    bus := ⟨false, 0, s.bus.slot, s.bus.round, .silent, false, false, none, [], .idle⟩
    frameCheck := ⟨[], [], s.frameCheck.tag, none⟩
    controller := { s.controller with state := .listen, listenTimer := 0, waitCount := 0, joinTimer := 0 }
    events := arrive s.events
      (stateChanged s.bus.round s.bus.slot s.stationNumber cause .listen s.controller.failures) } := rfl

theorem enterStandby_eq (s : State) : s.enterStandby = { s with
    bus := ⟨false, 0, s.bus.slot, s.bus.round, .silent, false, false, none, [], .idle⟩
    frameCheck := ⟨[], [], s.frameCheck.tag, none⟩
    controller := ⟨.standby, s.controller.failures, 0, 0, 0, false, false⟩
    transfer := ⟨[], none, none⟩
    events := arrive s.events
      (stateChanged s.bus.round s.bus.slot s.stationNumber .hostLeave .standby
        s.controller.failures) } := rfl

/-- R115: the eighth failure. -/
theorem failToListen_limit {s : State} (h : 8 ≤ s.controller.failures + 1) (cause : ChangeCause) :
    s.failToListen cause = { s with
      bus := ⟨false, 0, s.bus.slot, s.bus.round, .silent, false, false, none, [], .idle⟩
      frameCheck := ⟨[], [], s.frameCheck.tag, none⟩
      controller := ⟨.halted, s.controller.failures + 1, 0, 0, 0, false, false⟩
      events := arrive s.events (stateChanged s.bus.round s.bus.slot s.stationNumber .failureLimit
        .halted (s.controller.failures + 1)) } :=
  if_pos h

/-- R115: a failure before the eighth. -/
theorem failToListen_below {s : State} (h : s.controller.failures + 1 < 8) (cause : ChangeCause) :
    s.failToListen cause = { s with
      bus := ⟨false, 0, s.bus.slot, s.bus.round, .silent, false, false, none, [], .idle⟩
      frameCheck := ⟨[], [], s.frameCheck.tag, none⟩
      controller := { s.controller with
        state := .listen, failures := s.controller.failures + 1, listenTimer := 0, waitCount := 0,
        joinTimer := 0 }
      events := arrive s.events (stateChanged s.bus.round s.bus.slot s.stationNumber cause .listen
        (s.controller.failures + 1)) } :=
  if_neg (Nat.not_le.mpr h)

theorem failToJoining_limit {s : State} (h : 8 ≤ s.controller.failures + 1) (cause : ChangeCause) :
    s.failToJoining cause = { s with
      bus := ⟨false, 0, s.bus.slot, s.bus.round, .silent, false, false, none, [], .idle⟩
      frameCheck := ⟨[], [], s.frameCheck.tag, none⟩
      controller := ⟨.halted, s.controller.failures + 1, 0, 0, 0, false, false⟩
      events := arrive s.events (stateChanged s.bus.round s.bus.slot s.stationNumber .failureLimit
        .halted (s.controller.failures + 1)) } :=
  if_pos h

theorem failToJoining_below {s : State} (h : s.controller.failures + 1 < 8) (cause : ChangeCause) :
    s.failToJoining cause = { s with
      controller := { s.controller with
        state := .joining, failures := s.controller.failures + 1, joinTimer := 0 }
      events := arrive s.events (stateChanged s.bus.round s.bus.slot s.stationNumber cause .joining
        (s.controller.failures + 1)) } :=
  if_neg (Nat.not_le.mpr h)

/-! ### The own slot start of a joiner -/

theorem signalOwnSlot_own {s : State} (h : s.bus.slot = s.stationNumber) :
    s.signalOwnSlot = s.ownSlotStart := if_pos h

theorem signalOwnSlot_other {s : State} (h : s.bus.slot ≠ s.stationNumber) :
    s.signalOwnSlot = s := if_neg h

theorem ownSlotStart_joining {s : State} (h : s.controller.state = .joining) :
    s.ownSlotStart = s.joiningStep := by
  simp only [State.ownSlotStart, h]

theorem ownSlotStart_receiving {s : State} {r : Receiving} (h : s.controller.state = .receiving)
    (hr : s.transfer.receiving = some r) : s.ownSlotStart = s.loadJoin (some r.next) := by
  simp only [State.ownSlotStart, h, State.receivingStep, hr]

/-! ### The boundary -/

/-- R27: the station at the instant its slot timer reaches L, the slot not yet judged. -/
def State.atBoundary (s : State) : State := s.passTo s.slotSixteenths

/-- The Bus Interface at that instant. -/
def State.boundaryBus (s : State) : Bus :=
  { s.bus with
    slotTimer := s.slotSixteenths
    run := s.bus.run.map fun r => { r with age := r.age + s.timeToReading s.slotSixteenths } }

theorem atBoundary_bus {s : State} (hsync : s.bus.sync = true)
    (ht : s.bus.slotTimer ≤ (s.slotSixteenths : Int)) : s.atBoundary.bus = s.boundaryBus := by
  exact congrArg (fun n => { s.boundaryBus with slotTimer := n }) (passTo_slotTimer hsync ht)

/-- R103: outside LISTEN the listen timer stands still. -/
theorem listenAfter_of_ne {s : State} (h : s.controller.state ≠ .listen) (n : Nat) :
    s.listenAfter n = s.controller.listenTimer := if_neg h

theorem passTime_controller_of_ne {s : State} (h : s.controller.state ≠ .listen) (n : Nat) :
    (s.passTime n).controller = s.controller :=
  congrArg (fun x => { s.controller with listenTimer := x }) (listenAfter_of_ne h n)

theorem atBoundary_eq {s : State} {v : Verdict} (hend : s.SlotEndsWith v)
    (hl : s.controller.state ≠ .listen) :
    s.atBoundary = { s with bus := s.boundaryBus, rxd := s.rxdAtSlotEnd } := by
  obtain ⟨hsync, -, -, ht, -⟩ := hend
  rw [← atBoundary_bus hsync ht]
  have hcontroller : s.atBoundary.controller = s.controller := passTime_controller_of_ne hl _
  conv_rhs => rw [← hcontroller]
  rfl

/-- R32: the correction decreases the slot timer by what the slot's first start bit was late. -/
theorem correctTimer_eq (s : State) : s.correctTimer = { s with
    bus := { s.bus with slotTimer := s.bus.slotTimer - s.correction } } := by
  have hzero : s.correction = 0 → s = { s with
      bus := { s.bus with slotTimer := s.bus.slotTimer - s.correction } } := by
    intro h
    rw [h, sub_zero]
  unfold State.correctTimer
  split
  · next offset h =>
    have hc : s.correction = offset - bits 32 := by simp only [State.correction, h]; rfl
    rw [hc]
  all_goals next h => exact hzero (by simp only [State.correction, h])

/-- R27, R30, R32: the next slot of a judged station that is still in the schedule, its timer corrected by
`d`. -/
theorem beginNextSlot_eq {s t : State} {d : Int} (hsync : s.bus.sync = true)
    (hbus : t.bus = { s.boundaryBus with slotTimer := s.slotSixteenths - d })
    (hconfig : t.config = s.config) :
    t.beginNextSlot = { t with
      bus := (s.inNextSlot d).bus, frameCheck := ⟨[], [], t.frameCheck.tag, none⟩ } := by
  have hcount : t.stationCount = s.stationCount := by simp only [State.stationCount, hconfig]
  have hlength : t.slotSixteenths = s.slotSixteenths := by
    simp only [State.slotSixteenths, State.slotLength, hconfig]
  have htimer : (s.slotSixteenths : Int) - d - s.slotSixteenths = -d := by omega
  unfold State.beginNextSlot
  simp only [State.nextSlot, State.nextRound, hcount, hlength, hbus, htimer, State.boundaryBus, hsync,
    State.inNextSlot, State.carriedRun, Option.map_map, Option.isSome_map]
  rfl

theorem exec_slotEnd_ends {s : State} {v : Verdict} (hend : s.SlotEndsWith v) :
    exec .slotEnd s = .next s.atBoundary.slotBoundary ∧ s.atBoundary.slotVerdict = v := by
  obtain ⟨hsync, htx, hrun, -, hverdict⟩ := hend
  exact ⟨exec_slotEnd_quiet s hsync htx hrun, (passTo_slotVerdict s _).trans hverdict⟩

/-- R27, R62: a judged station still in the schedule begins the next slot. -/
theorem exec_slotEnd_stays {s t : State} {v : Verdict} {d : Int} (hend : s.SlotEndsWith v)
    (hjudge : s.atBoundary.judgeSlot v = t)
    (hbus : t.bus = { s.boundaryBus with slotTimer := s.slotSixteenths - d })
    (hconfig : t.config = s.config) :
    exec .slotEnd s = .next (State.signalOwnSlot { t with
      bus := (s.inNextSlot d).bus, frameCheck := ⟨[], [], t.frameCheck.tag, none⟩ }) := by
  have hsync : s.bus.sync = true := hend.1
  obtain ⟨hexec, hverdict⟩ := exec_slotEnd_ends hend
  have hin : t.bus.sync = true := by rw [hbus]; exact hsync
  rw [hexec, slotBoundary_synchronised _ (by rw [hverdict, hjudge]; exact hin), hverdict, hjudge,
    beginNextSlot_eq hsync hbus hconfig]

/-- R28: a station that its judgement took out of the schedule keeps one or the other numbers. -/
theorem exec_slotEnd_leaves {s t : State} {v : Verdict} (hend : s.SlotEndsWith v)
    (hjudge : s.atBoundary.judgeSlot v = t) (hout : t.bus.sync = false) :
    exec .slotEnd s = .next t.numbersOnLeaving := by
  obtain ⟨hexec, hverdict⟩ := exec_slotEnd_ends hend
  rw [hexec, State.slotBoundary, hverdict, hjudge, hout]
  rfl

/-- Assumption 6: the two readings of the numbers a station keeps that leaves the schedule. -/
theorem numbersOnLeaving_eq (t : State) :
    ∃ slot round, t.numbersOnLeaving = { t with bus := { t.bus with slot := slot, round := round } } ∧
      ((slot = t.bus.slot ∧ round = t.bus.round) ∨ (slot = t.nextSlot ∧ round = t.nextRound)) := by
  unfold State.numbersOnLeaving
  split
  · exact ⟨_, _, rfl, .inr ⟨rfl, rfl⟩⟩
  · exact ⟨_, _, rfl, .inl ⟨rfl, rfl⟩⟩

/-! ### The slot ends of a joiner -/

theorem judgeSlot_joining {s : State} (h : s.controller.state = .joining)
    (hother : s.bus.slot ≠ s.stationNumber) (v : Verdict) : s.judgeSlot v = s.judgeJoining v := by
  simp only [State.judgeSlot, h, if_neg hother]

theorem judgeSlot_receiving {s : State} {r : Receiving} (h : s.controller.state = .receiving)
    (hother : s.bus.slot ≠ s.stationNumber) (hr : s.transfer.receiving = some r) (v : Verdict) :
    s.judgeSlot v = if s.bus.slot = r.donor then s.donorSlot r v
      else if stationIn r.followed s.bus.slot then s.followedSlot r v else s.outsideSlot v := by
  simp only [State.judgeSlot, h, if_neg hother, State.judgeReceiving, hr]

/-- R27: the next slot, where the judgement leaves the bus as it was at the boundary. -/
theorem exec_slotEnd_uncorrected {s t : State} {v : Verdict} (hend : s.SlotEndsWith v)
    (hl : s.controller.state ≠ .listen)
    (hjudge : State.judgeSlot { s with bus := s.boundaryBus, rxd := s.rxdAtSlotEnd } v = t)
    (hbus : t.bus = s.boundaryBus := by rfl) (hconfig : t.config = s.config := by rfl) :
    exec .slotEnd s = .next (State.signalOwnSlot { t with
      bus := (s.inNextSlot 0).bus, frameCheck := ⟨[], [], t.frameCheck.tag, none⟩ }) := by
  rw [← atBoundary_eq hend hl] at hjudge
  exact exec_slotEnd_stays (d := 0) hend hjudge (by rw [hbus, sub_zero]; rfl) hconfig

/-- R32: the next slot, where the judgement ends with the correction of the timer. -/
theorem exec_slotEnd_corrected {s t : State} {v : Verdict} (hend : s.SlotEndsWith v)
    (hl : s.controller.state ≠ .listen)
    (hjudge : State.judgeSlot { s with bus := s.boundaryBus, rxd := s.rxdAtSlotEnd } v =
      t.correctTimer)
    (hbus : t.bus = s.boundaryBus := by rfl) (hconfig : t.config = s.config := by rfl) :
    exec .slotEnd s = .next (State.signalOwnSlot { t with
      bus := (s.inNextSlot s.correction).bus, frameCheck := ⟨[], [], t.frameCheck.tag, none⟩ }) := by
  have hcorrection : t.correction = s.correction := by rw [State.correction, hbus]; rfl
  rw [← atBoundary_eq hend hl, correctTimer_eq, hcorrection] at hjudge
  rw [exec_slotEnd_stays hend hjudge (by rw [hbus]; rfl) hconfig]

/-- R108: below the join timeout a fresh JOIN is supplied. -/
theorem signalOwnSlot_joining {s : State} (hslot : s.bus.slot = s.stationNumber)
    (hstate : s.controller.state = .joining) (hlt : s.controller.joinTimer < 8) :
    s.signalOwnSlot = { s with
      bus := { s.bus with tx := .built, loopback := [] }
      frameCheck := { s.frameCheck with transmit :=
        (Frame.join ⟨s.stationNumber, s.bus.round, s.configTag, none⟩).bytes }
      controller := { s.controller with joinTimer := s.controller.joinTimer + 1 } } := by
  rw [signalOwnSlot_own hslot, ownSlotStart_joining hstate, State.joiningStep, if_pos hlt]
  rfl

/-- R135: a RECEIVING station supplies a JOIN with its next expected index. -/
theorem signalOwnSlot_receiving {s : State} {r : Receiving} (hslot : s.bus.slot = s.stationNumber)
    (hstate : s.controller.state = .receiving) (hr : s.transfer.receiving = some r) :
    s.signalOwnSlot = { s with
      bus := { s.bus with tx := .built, loopback := [] }
      frameCheck := { s.frameCheck with transmit :=
        (Frame.join ⟨s.stationNumber, s.bus.round, s.configTag, some r.next⟩).bytes } } := by
  rw [signalOwnSlot_own hslot, ownSlotStart_receiving hstate hr]
  rfl

/-- R132: a silent slot of another station leaves RECEIVING but for the station removed. -/
theorem judgeReceiving_silent {s : State} {r : Receiving} (hstate : s.controller.state = .receiving)
    (hother : s.bus.slot ≠ s.stationNumber) (hr : s.transfer.receiving = some r)
    (hdonor : s.bus.slot ≠ r.donor) :
    s.judgeSlot .silent = s.setReceiving (some { r with
      followed := if stationIn r.followed s.bus.slot then stationRemove r.followed s.bus.slot
        else r.followed }) := by
  rw [judgeSlot_receiving hstate hother hr, if_neg hdonor]
  split
  · rfl
  · show s = s.setReceiving (some r)
    rw [← hr]
    rfl

/-- Settles O45: the own slot start of a joiner by state and join timer, and the slot ends before it. -/
theorem joinerAsksOrTimesOut : Obligations.JoinerAsksOrTimesOut := by
  intro s r
  refine ⟨fun hslot => ⟨signalOwnSlot_receiving hslot, signalOwnSlot_joining hslot, ?timeout⟩,
    fun hend hother hnext => ?silent⟩
  case timeout =>
    intro hstate hge
    rw [signalOwnSlot_own hslot, ownSlotStart_joining hstate, State.joiningStep,
      if_neg (Nat.not_lt.mpr hge)]
    refine ⟨fun hfail => ?_, fun hfail => ?_⟩
    · rw [failToListen_below hfail, hslot]
    · rw [failToListen_limit hfail, hslot]
  case silent =>
    have hjoining := fun hstate => exec_slotEnd_uncorrected hend
      (fun hl => by rw [hstate] at hl; cases hl) (judgeSlot_joining
        (s := { s with bus := s.boundaryBus, rxd := s.rxdAtSlotEnd }) hstate hother .silent)
    refine ⟨fun hstate hr hdonor => ?_, fun hstate hlt => ?_, fun hstate _ => hjoining hstate⟩
    · have hend := exec_slotEnd_uncorrected hend (by rw [hstate]; decide) (judgeReceiving_silent
        (s := { s with bus := s.boundaryBus, rxd := s.rxdAtSlotEnd }) hstate hother hr hdonor)
      refine hend.trans (congrArg _
        ((signalOwnSlot_receiving (by exact hnext) (by exact hstate) (by rfl)).trans ?_))
      simp only [State.inNextSlot, hnext]
      rfl
    · refine (hjoining hstate).trans
        (congrArg _
        ((signalOwnSlot_joining (by exact hnext) (by exact hstate) (by exact hlt)).trans ?_))
      simp only [State.inNextSlot, hnext]
      rfl

end Sys2Proof.Machine
end

section
/-! PROOF. The watch table: the law of the table and of the lines as one of the entries alone (R137, R138,
R140), and how an evaluation (R145) or a re-evaluation (R149) touches the entries one by one, in order of
entry index, with their events. -/

namespace Sys2Proof.Machine

-- One theorem after another: each proof checked beside another takes a thread with memory of its own.
set_option Elab.async false

/-! ### The law of the table -/

/-- R137, R138: no two entries are equal watches, and every entry is sound. -/
def SoundTable (entries : Vector (Option Watch) 16) : Prop :=
  (∀ i j : Fin 16, equalWatches entries[i] entries[j] = true → i = j) ∧
    ∀ i : Fin 16, soundEntry entries[i] = true

/-- R140: the lines are those of the entries exactly when each is asserted by an entry that HOLDS. -/
theorem eq_ofEntries_iff (u : WatchUnit) : u = .ofEntries u.entries ↔
    ∀ l : Fin 4, u.lines[l] = true ↔ ∃ i : Fin 16, entryDrives l u.entries[i] = true := by
  constructor
  · intro h l
    rw [h]
    exact ofEntries_lines_iff u.entries l
  · intro h
    obtain ⟨entries, lines⟩ := u
    have hline : ∀ l : Fin 4, lines[l] = (WatchUnit.ofEntries entries).lines[l] := by
      intro l
      rw [Bool.eq_iff_iff, ofEntries_lines, lineLevel_iff]
      exact h l
    refine congrArg (WatchUnit.mk entries) (Vector.ext fun l hl => ?_)
    exact hline ⟨l, hl⟩

theorem watchLaw_iff (s : State) :
    s.WatchLaw ↔ SoundTable s.watch.entries ∧ s.watch = .ofEntries s.watch.entries := by
  rw [eq_ofEntries_iff]
  exact and_assoc.symm

/-- The law of a table whose lines were just recomputed. -/
theorem watchLaw_ofEntries {s : State} {entries : Vector (Option Watch) 16}
    (h : s.watch = .ofEntries entries) (hsound : SoundTable entries) : s.WatchLaw := by
  rw [watchLaw_iff, h]
  exact ⟨hsound, rfl⟩

theorem getElem_setEntry (entries : Vector (Option Watch) 16) (i j : Fin 16) (entry : Option Watch) :
    (entries.set i entry)[j] = if j = i then entry else entries[j] := by
  have hval : i.val = j.val ↔ j = i := ⟨fun h => Fin.ext h.symm, fun h => congrArg Fin.val h.symm⟩
  simp only [Fin.getElem_fin, Vector.getElem_set, hval]

theorem soundTable_empty : SoundTable (Vector.replicate 16 none) := by
  constructor
  · intro i j h
    simp [equalWatches] at h
  · intro i
    simp [soundEntry]

/-- R143: an emptied entry. -/
theorem soundTable_set_none {entries : Vector (Option Watch) 16} (h : SoundTable entries)
    (i : Fin 16) : SoundTable (entries.set i none) := by
  obtain ⟨hdistinct, hsound⟩ := h
  refine ⟨fun j k hequal => ?_, fun j => ?_⟩
  · rw [getElem_setEntry, getElem_setEntry] at hequal
    split at hequal
    · simp [equalWatches] at hequal
    · split at hequal
      · cases entries[j] <;> simp [equalWatches] at hequal
      · exact hdistinct j k hequal
  · rw [getElem_setEntry]
    split
    · rfl
    · exact hsound j

/-- R138, R142: a sound watch that equals no entry. -/
theorem soundTable_set_some {entries : Vector (Option Watch) 16} (h : SoundTable entries)
    {i : Fin 16} {w : Watch} (hw : soundEntry (some w) = true)
    (hnew : ∀ j : Fin 16, j ≠ i → equalWatches (some w) entries[j] = false) :
    SoundTable (entries.set i (some w)) := by
  have hsymm : ∀ a b, equalWatches a b = equalWatches b a := by
    intro a b
    cases a <;> cases b <;> simp [equalWatches, eq_comm]
  obtain ⟨hdistinct, hsound⟩ := h
  refine ⟨fun j k hequal => ?_, fun j => ?_⟩
  · rw [getElem_setEntry, getElem_setEntry] at hequal
    split at hequal
    · next hj =>
      split at hequal
      · next hk => rw [hj, hk]
      · next hk => rw [hnew k hk] at hequal; cases hequal
    · next hj =>
      split at hequal
      · rw [hsymm, hnew j hj] at hequal; cases hequal
      · exact hdistinct j k hequal
  · rw [getElem_setEntry]
    split
    · exact hw
    · exact hsound j

/-! ### Entries touched one by one -/

/-- A watch with the state a test gives it. -/
def Watch.retested (test : Watch → Bool) (w : Watch) : Watch := { w with holds := test w }

/-- The entry of an index takes the state a test gives it. -/
def touchEntry (test : Watch → Bool) (entries : Vector (Option Watch) 16) (i : Fin 16) :
    Vector (Option Watch) 16 :=
  entries.set i (entries[i].map (Watch.retested test))

/-- R137: a test that leaves CHANGE entries CLEAR. -/
def ClearsChange (test : Watch → Bool) : Prop :=
  ∀ w, soundEntry (some w) = true → w.condition = .change → test w = false

theorem soundEntry_retested {test : Watch → Bool} (ht : ClearsChange test) {entry : Option Watch}
    (h : soundEntry entry = true) : soundEntry (entry.map (Watch.retested test)) = true := by
  cases entry with
  | none => rfl
  | some w =>
    have hclear := ht w h
    simp only [soundEntry, Bool.and_eq_true, Bool.or_eq_true, decide_eq_true_eq,
      Bool.not_eq_true'] at h
    simp only [Option.map_some, soundEntry, Watch.retested, Bool.and_eq_true, Bool.or_eq_true,
      decide_eq_true_eq, Bool.not_eq_true']
    refine ⟨h.1, ?_⟩
    by_cases hchange : w.condition = .change
    · exact .inr ⟨hclear hchange, (h.2.resolve_left (not_not.mpr hchange)).2⟩
    · exact .inl hchange

theorem equalWatches_retested (test : Watch → Bool) (a b : Option Watch) :
    equalWatches (a.map (Watch.retested test)) b = equalWatches a b ∧
      equalWatches b (a.map (Watch.retested test)) = equalWatches b a := by
  cases a <;> cases b <;> exact ⟨rfl, rfl⟩

theorem getElem_touchEntry (test : Watch → Bool) (entries : Vector (Option Watch) 16)
    (i j : Fin 16) : (touchEntry test entries i)[j] =
      if j = i then entries[j].map (Watch.retested test) else entries[j] := by
  rw [touchEntry, getElem_setEntry]
  split
  · next h => rw [h]
  · rfl

theorem soundTable_touch {test : Watch → Bool} (ht : ClearsChange test)
    {entries : Vector (Option Watch) 16} (h : SoundTable entries) (i : Fin 16) :
    SoundTable (touchEntry test entries i) := by
  obtain ⟨hdistinct, hsound⟩ := h
  refine ⟨fun j k hequal => hdistinct j k ?_, fun j => ?_⟩
  · rw [getElem_touchEntry, getElem_touchEntry] at hequal
    split at hequal <;> split at hequal <;>
      simpa only [(equalWatches_retested test _ _).1, (equalWatches_retested test _ _).2]
        using hequal
  · rw [getElem_touchEntry]
    split
    · exact soundEntry_retested ht (hsound j)
    · exact hsound j

theorem soundTable_touchAll {test : Watch → Bool} (ht : ClearsChange test) (list : List (Fin 16))
    {entries : Vector (Option Watch) 16} (h : SoundTable entries) :
    SoundTable (list.foldl (touchEntry test) entries) := by
  induction list generalizing entries with
  | nil => exact h
  | cons i list ih => exact ih (soundTable_touch ht h i)

theorem getElem_touchAll (test : Watch → Bool) {list : List (Fin 16)} (hnodup : list.Nodup)
    (entries : Vector (Option Watch) 16) (j : Fin 16) :
    (list.foldl (touchEntry test) entries)[j] =
      if j ∈ list then entries[j].map (Watch.retested test) else entries[j] := by
  induction list generalizing entries with
  | nil => rfl
  | cons i list ih =>
    obtain ⟨hi, hrest⟩ := List.nodup_cons.mp hnodup
    rw [List.foldl_cons, ih hrest, getElem_touchEntry]
    by_cases hji : j = i
    · subst hji
      simp [hi]
    · simp [hji]

/-- Every entry of the table is touched once. -/
theorem getElem_touchTable (test : Watch → Bool) (entries : Vector (Option Watch) 16) (j : Fin 16) :
    (watchEntries.foldl (touchEntry test) entries)[j] =
      entries[j].map (Watch.retested test) := by
  rw [getElem_touchAll test (by decide), if_pos (mem_watchEntries j)]

/-- One pass over entries by a step that touches its entry and lets a record arrive, or none. -/
theorem foldl_touch {s : State} {step : State → Fin 16 → State} {test : Watch → Bool}
    {record : Fin 16 → Watch → Option EventRecord} (ht : ClearsChange test)
    (hstep : ∀ entries queue i, SoundTable entries →
      step { s with watch := .ofEntries entries, events := queue } i = { s with
        watch := .ofEntries (touchEntry test entries i)
        events := arrived queue (entries[i].bind (record i)).toList })
    {list : List (Fin 16)} (hnodup : list.Nodup) {entries : Vector (Option Watch) 16}
    (hsound : SoundTable entries) (queue : List EventRecord) :
    list.foldl step { s with watch := .ofEntries entries, events := queue } = { s with
      watch := .ofEntries (list.foldl (touchEntry test) entries)
      events := arrived queue (list.filterMap fun i => entries[i].bind (record i)) } := by
  induction list generalizing entries queue with
  | nil => rfl
  | cons i list ih =>
    obtain ⟨hi, hrest⟩ := List.nodup_cons.mp hnodup
    have hlater : list.filterMap (fun j => (touchEntry test entries i)[j].bind (record j)) =
        list.filterMap fun j => entries[j].bind (record j) := by
      refine List.filterMap_congr fun j hj => ?_
      rw [getElem_touchEntry, if_neg (by rintro rfl; exact hi hj)]
    rw [List.foldl_cons, hstep entries queue i hsound, ih hrest (soundTable_touch ht hsound i),
      hlater, ← arrived_append, List.foldl_cons]
    congr 2
    cases hrecord : entries[i].bind (record i) with
    | none => exact (List.filterMap_cons_none (f := fun j : Fin 16 => entries[j].bind (record j)) hrecord).symm
    | some e => exact (List.filterMap_cons_some (f := fun j : Fin 16 => entries[j].bind (record j)) hrecord).symm

/-! ### An evaluation and a re-evaluation (R139, R145, R149) -/

/-- R145, R146: what the evaluation of a contribution to a cell finds for a watch. -/
def State.evaluated (s : State) (cell : Fin 32) (w : Watch) : Bool :=
  if w.cell = cell then conditionHolds (s.cellMode cell) w.condition w.threshold (s.cell cell)
  else w.holds

/-- R145, R146: the record an entry's part in an evaluation queues. -/
def State.evaluationRecord (s : State) (cell : Fin 32) (kind : ContributionKind) (origin : Nat)
    (i : Fin 16) (w : Watch) : Option EventRecord :=
  if w.cell ≠ cell then none
  else if w.condition = .change then
    some { s.blankEvent .watchChange with
      station := byteOf origin
      cell := byteOf cell.val
      item := byteOf i.val
      code := byteOf (kindCode kind)
      value := (s.cell cell).value }
  else if s.evaluated cell w = w.holds then none
  else some (s.watchEvent (if w.holds then .watchOff else .watchOn) i w.cell)

/-- R149: what a re-evaluation finds for a watch. -/
def State.reevaluated (s : State) (w : Watch) : Bool :=
  if w.condition = .change then w.holds else s.testWatch w

/-- R149: the record an entry's part in a re-evaluation queues. -/
def State.reevaluationRecord (s : State) (i : Fin 16) (w : Watch) : Option EventRecord :=
  if w.condition = .change ∨ s.testWatch w = w.holds then none
  else some (s.watchEvent (if w.holds then .watchOff else .watchOn) i w.cell)

theorem holds_of_change {w : Watch} (h : soundEntry (some w) = true) (hc : w.condition = .change) :
    w.holds = false := by
  simp only [soundEntry, hc, Bool.and_eq_true, Bool.or_eq_true, decide_eq_true_eq,
    Bool.not_eq_true'] at h
  exact (h.2.resolve_left (not_not.mpr rfl)).1

theorem evaluated_clearsChange (s : State) (cell : Fin 32) : ClearsChange (s.evaluated cell) := by
  intro w hw hc
  unfold State.evaluated
  split
  · rw [hc]; rfl
  · exact holds_of_change hw hc

theorem reevaluated_clearsChange (s : State) : ClearsChange s.reevaluated := by
  intro w hw hc
  rw [State.reevaluated, if_pos hc]
  exact holds_of_change hw hc

/-- An entry a test does not change. -/
theorem touchEntry_same {test : Watch → Bool} {entries : Vector (Option Watch) 16} {i : Fin 16}
    (h : ∀ w, entries[i] = some w → test w = w.holds) : touchEntry test entries i = entries := by
  have hsame : entries[i].map (Watch.retested test) = entries[i] := by
    cases hentry : entries[i] with
    | none => rfl
    | some w => rw [Option.map_some, Watch.retested, h w hentry]
  rw [touchEntry, hsame]
  exact Vector.set_getElem_self i.isLt

/-- R145: a retest gives the entry the state its test finds, and reports a difference. -/
theorem retestWatch_touch {s : State} {entries : Vector (Option Watch) 16} {i : Fin 16} {w : Watch}
    {test : Watch → Bool} (hs : s.watch = .ofEntries entries) (hw : entries[i] = some w)
    (htest : test w = s.testWatch w) :
    s.retestWatch i w = { s with
      watch := .ofEntries (touchEntry test entries i)
      events := arrived s.events (if s.testWatch w = w.holds then none
        else some (s.watchEvent (if w.holds then .watchOff else .watchOn) i w.cell)).toList } := by
  unfold State.retestWatch
  dsimp only
  split
  · next h =>
    rw [touchEntry_same, ← hs]
    · rfl
    · intro v hv
      cases hw.symm.trans hv
      exact htest.trans h
  · next h =>
    have hkind : (if s.testWatch w then EventKind.watchOn else .watchOff) =
        if w.holds then EventKind.watchOff else .watchOn := by
      revert h
      cases s.testWatch w <;> cases w.holds <;> simp
    rw [hkind, touchEntry, hw, Option.map_some, Watch.retested, htest, State.setEntry, hs]
    rfl

/-- An entry's part in an evaluation, as a touch of the entry. -/
theorem evaluateEntry_touch (s : State) (cell : Fin 32) (kind : ContributionKind) (origin : Nat)
    {entries : Vector (Option Watch) 16} (queue : List EventRecord) (i : Fin 16)
    (hsound : SoundTable entries) :
    State.evaluateEntry cell kind origin { s with watch := .ofEntries entries, events := queue } i =
      { s with
        watch := .ofEntries (touchEntry (s.evaluated cell) entries i)
        events := arrived queue
          (entries[i].bind (s.evaluationRecord cell kind origin i)).toList } := by
  unfold State.evaluateEntry
  split
  · next hentry =>
    have hentry : entries[i] = none := hentry
    rw [touchEntry_same (by simp [hentry]), hentry]
    rfl
  · next w hentry =>
    have hentry : entries[i] = some w := hentry
    have hw : soundEntry (some w) = true := hentry ▸ hsound.2 i
    rw [hentry, Option.bind_some, State.evaluationRecord]
    split
    · next hcell =>
      rw [touchEntry_same]
      · rfl
      · intro v hv
        cases hentry.symm.trans hv
        exact if_neg hcell
    · next hcell =>
      split
      · next hchange =>
        rw [touchEntry_same]
        · rfl
        · intro v hv
          cases hentry.symm.trans hv
          rw [evaluated_clearsChange s cell w hw hchange, holds_of_change hw hchange]
      · have htest : s.evaluated cell w = s.testWatch w := by
          rw [State.evaluated, if_pos (not_not.mp hcell), State.testWatch, not_not.mp hcell]
        rw [htest]
        exact retestWatch_touch (s := { s with watch := .ofEntries entries, events := queue }) rfl
          hentry htest

/-- An entry's part in a re-evaluation, as a touch of the entry. -/
theorem reevaluateEntry_touch (s : State) {entries : Vector (Option Watch) 16}
    (queue : List EventRecord) (i : Fin 16) :
    State.reevaluateEntry { s with watch := .ofEntries entries, events := queue } i = { s with
      watch := .ofEntries (touchEntry s.reevaluated entries i)
      events := arrived queue (entries[i].bind (s.reevaluationRecord i)).toList } := by
  unfold State.reevaluateEntry
  split
  · next hentry =>
    have hentry : entries[i] = none := hentry
    rw [touchEntry_same (by simp [hentry]), hentry]
    rfl
  · next w hentry =>
    have hentry : entries[i] = some w := hentry
    rw [hentry, Option.bind_some, State.reevaluationRecord]
    split
    · next hchange =>
      rw [touchEntry_same, if_pos (.inl hchange)]
      · rfl
      · intro v hv
        cases hentry.symm.trans hv
        exact if_pos hchange
    · next hchange =>
      have htest : s.reevaluated w = s.testWatch w := if_neg hchange
      simp only [hchange, false_or]
      exact retestWatch_touch (s := { s with watch := .ofEntries entries, events := queue }) rfl
        hentry htest

/-- R145 to R148: an evaluation in MEMBER of a table that is sound. -/
theorem evaluateWatches_touch {s : State} {entries : Vector (Option Watch) 16}
    (hs : s.watch = .ofEntries entries) (hsound : SoundTable entries)
    (hmember : s.controller.state = .member) (cell : Fin 32) (kind : ContributionKind) (origin : Nat) :
    s.evaluateWatches cell kind origin = { s with
      watch := .ofEntries (watchEntries.foldl (touchEntry (s.evaluated cell)) entries)
      events := arrived s.events (watchEntries.filterMap fun i =>
        entries[i].bind (s.evaluationRecord cell kind origin i)) } := by
  rw [State.evaluateWatches, if_pos hmember]
  have hstart : s = { s with watch := .ofEntries entries, events := s.events } := by rw [← hs]
  conv_lhs => rw [hstart]
  exact foldl_touch (evaluated_clearsChange s cell)
    (fun _ queue i h => evaluateEntry_touch s cell kind origin queue i h) (by decide) hsound s.events

/-- R149: a re-evaluation of a table that is sound. -/
theorem reevaluateWatches_touch {s : State} {entries : Vector (Option Watch) 16}
    (hs : s.watch = .ofEntries entries) (hsound : SoundTable entries) :
    s.reevaluateWatches = { s with
      watch := .ofEntries (watchEntries.foldl (touchEntry s.reevaluated) entries)
      events := arrived s.events (watchEntries.filterMap fun i =>
        entries[i].bind (s.reevaluationRecord i)) } := by
  have hstart : s = { s with watch := .ofEntries entries, events := s.events } := by rw [← hs]
  conv_lhs => rw [hstart]
  exact foldl_touch (reevaluated_clearsChange s)
    (fun _ queue i _ => reevaluateEntry_touch s queue i) (by decide) hsound s.events

/-- Settles O52: the evaluation touches the entries of the cell, one by one in order of index. -/
theorem contributionReachesWatches : Obligations.ContributionReachesWatches := by
  intro s origin c after hafter
  have happly : s.applyToCell origin c =
      ({ s with cells := s.cells.set c.cell after } : State).evaluateWatches c.cell c.kind origin := by
    rw [hafter]
    rfl
  refine ⟨fun hother => ?_, fun hmember hlaw => ?_⟩
  · rw [happly]
    exact if_neg hother
  · obtain ⟨hsound, hlines⟩ := (watchLaw_iff s).mp hlaw
    have hcell : (s.cells.set c.cell after)[c.cell] = after := Vector.getElem_set_self c.cell.isLt
    have htouch := evaluateWatches_touch (s := { s with cells := s.cells.set c.cell after })
      (by exact hlines) hsound hmember c.cell c.kind origin
    rw [← happly] at htouch
    have hretested : ∀ w, Watch.retested (State.evaluated { s with
        cells := s.cells.set c.cell after } c.cell) w = if w.cell = c.cell then
          { w with holds := conditionHolds (s.cellMode c.cell) w.condition w.threshold after }
        else w := by
      intro w
      unfold Watch.retested State.evaluated
      split
      · rw [State.cell, hcell]
        rfl
      · rfl
    have hrecord : ∀ i w, State.evaluationRecord { s with cells := s.cells.set c.cell after } c.cell
        c.kind origin i w = if w.cell ≠ c.cell then none
          else if w.condition = .change then
            some ⟨.watchChange, s.bus.round, byteOf s.bus.slot, byteOf origin,
              byteOf c.cell.val, byteOf i.val, byteOf (kindCode c.kind), after.value, 0⟩
          else if conditionHolds (s.cellMode c.cell) w.condition w.threshold after = w.holds
            then none
          else
            some ⟨if w.holds then .watchOff else .watchOn, s.bus.round, byteOf s.bus.slot, 0,
              byteOf c.cell.val, byteOf i.val, 0, after.value, flagsByte after.flags⟩ := by
      intro i w
      by_cases hc : w.cell = c.cell
      · simp only [State.evaluationRecord, State.evaluated, State.watchEvent, State.cell, hc, hcell,
          ne_eq, not_true, if_false, if_true]
        rfl
      · simp only [State.evaluationRecord, ne_eq, hc, not_false_eq_true, if_true]
    refine ⟨?_, fun i => ?_, fun x => ?_⟩
    · rw [htouch]
      refine congrArg (fun list => { s with
        cells := s.cells.set c.cell after
        watch := .ofEntries (watchEntries.foldl (touchEntry (State.evaluated { s with
          cells := s.cells.set c.cell after } c.cell)) s.watch.entries)
        events := arrived s.events list }) (List.filterMap_congr fun i _ => ?_)
      cases s.watch.entries[i] with
      | none => rfl
      | some w =>
        rw [Option.bind_some]
        exact hrecord i w
    · rw [htouch]
      refine (getElem_touchTable _ s.watch.entries i).trans ?_
      exact congrArg (s.watch.entries[i].map ·) (funext hretested)
    · rw [htouch]
      exact ofEntries_lines_iff _ x

/-! ### A lawful table brought up to date (R149) -/

/-- R149: the table after a re-evaluation. -/
def State.upToDate (s : State) : WatchUnit :=
  .ofEntries (watchEntries.foldl (touchEntry s.reevaluated) s.watch.entries)

theorem upToDate_lines (s : State) (l : Fin 4) :
    s.upToDate.lines[l] = true ↔ ∃ i : Fin 16, entryDrives l s.upToDate.entries[i] = true :=
  ofEntries_lines_iff _ l

theorem upToDate_entries {s : State} (h : s.WatchLaw) (i : Fin 16) :
    s.upToDate.entries[i] = s.watch.entries[i].map fun w => { w with
      holds := conditionHolds (s.cellMode w.cell) w.condition w.threshold s.cells[w.cell] } := by
  obtain ⟨⟨-, hsound⟩, -⟩ := (watchLaw_iff s).mp h
  refine (getElem_touchTable _ s.watch.entries i).trans ?_
  cases hentry : s.watch.entries[i] with
  | none => rfl
  | some w =>
    have hw : soundEntry (some w) = true := hentry ▸ hsound i
    rw [Option.map_some, Option.map_some, Watch.retested, State.reevaluated]
    split
    · next hchange => rw [holds_of_change hw hchange, hchange]; rfl
    · rfl

theorem reevaluateWatches_lawful {s : State} (h : s.WatchLaw) :
    s.reevaluateWatches = { s with
      watch := s.upToDate
      events := arrived s.events (s.retested s.bus.round s.bus.slot s.cells) } := by
  obtain ⟨hsound, hlines⟩ := (watchLaw_iff s).mp h
  refine (reevaluateWatches_touch hlines hsound).trans (congrArg (fun list => { s with
    watch := s.upToDate, events := arrived s.events list }) (List.filterMap_congr fun i _ => ?_))
  cases s.watch.entries[i] with
  | none => rfl
  | some w => rfl

theorem watchLaw_reevaluateWatches {s : State} (h : s.WatchLaw) : s.reevaluateWatches.WatchLaw := by
  rw [reevaluateWatches_lawful h]
  exact watchLaw_ofEntries rfl
    (soundTable_touchAll (reevaluated_clearsChange s) _ ((watchLaw_iff s).mp h).1)

theorem watchLaw_evaluateWatches {s : State} (h : s.WatchLaw) (cell : Fin 32)
    (kind : ContributionKind) (origin : Nat) : (s.evaluateWatches cell kind origin).WatchLaw := by
  obtain ⟨hsound, hlines⟩ := (watchLaw_iff s).mp h
  by_cases hmember : s.controller.state = .member
  · rw [evaluateWatches_touch hlines hsound hmember]
    exact watchLaw_ofEntries rfl (soundTable_touchAll (evaluated_clearsChange s cell) _ hsound)
  · rw [State.evaluateWatches, if_neg hmember]
    exact h

end Sys2Proof.Machine
end

section
/-! PROOF. What every command keeps (R2, R26, R101, R138): the operations of the blocks leave the
configuration, the config tag, the RESETn line, the select period and the waiting commands as they are, and
a lawful watch table lawful; which commands are none of these operations, and which reach the cells and the
digest. -/

namespace Sys2Proof.Machine

-- One theorem after another: each proof checked beside another takes a thread with memory of its own.
set_option Elab.async false

/-! ### What the operations leave as it is -/

/-- The parts of the station that only a request, a reset or the host port's own commands change. -/
structure Lasting where
  config : Option Configuration
  tag : Option Byte
  resetn : Bool
  pending : List Instr
  csn : Bool
  phase : SelectPhase
  resetPending : Bool

def State.lasting (s : State) : Lasting :=
  ⟨s.config, s.frameCheck.tag, s.resetn, s.pending, s.host.csn, s.host.phase, s.host.resetPending⟩

/-- From one state to another the lasting parts are the same, and a lawful watch table stayed lawful. -/
structure State.Endures (s t : State) : Prop where
  lasting : t.lasting = s.lasting
  watch : s.WatchLaw → t.WatchLaw

/-- The watch law speaks of the watch unit alone. -/
theorem watchLaw_of_eq {s t : State} (h : t.watch = s.watch) (hs : s.WatchLaw) : t.WatchLaw := by
  unfold State.WatchLaw at hs ⊢
  rw [h]
  exact hs

theorem State.Endures.of_same {s t : State} (hlasting : t.lasting = s.lasting)
    (hwatch : t.watch = s.watch) : s.Endures t :=
  ⟨hlasting, watchLaw_of_eq hwatch⟩

theorem State.Endures.refl (s : State) : s.Endures s := .of_same rfl rfl

theorem State.Endures.trans {s t u : State} (hst : s.Endures t) (htu : t.Endures u) : s.Endures u :=
  ⟨htu.lasting.trans hst.lasting, htu.watch ∘ hst.watch⟩

/-- An update that leaves all of it alone may follow. -/
theorem State.Endures.keeping {s t u : State} (hst : s.Endures t)
    (hlasting : u.lasting = t.lasting) (hwatch : u.watch = t.watch) :
    s.Endures u :=
  hst.trans (.of_same hlasting hwatch)

/-- An update that leaves all of it alone may come first. -/
theorem State.Endures.after {s t u : State} (htu : t.Endures u)
    (hlasting : t.lasting = s.lasting) (hwatch : t.watch = s.watch) :
    s.Endures u :=
  (State.Endures.of_same hlasting hwatch).trans htu

theorem foldl_endures {α : Type} {f : State → α → State}
    (hf : ∀ (s : State) (a : α), s.Endures (f s a)) (list : List α) (s : State) :
    s.Endures (list.foldl f s) := by
  induction list generalizing s with
  | nil => exact .refl s
  | cons a list ih => exact (hf s a).trans (ih (f s a))

/-! ### The view, the timer and changes of the station state -/

theorem setView_endures (s : State) (v : StationSet) : s.Endures (s.setView v) := by
  unfold State.setView
  split
  · exact .refl s
  · exact .of_same rfl rfl

theorem correctTimer_endures (s : State) : s.Endures s.correctTimer := by
  rw [correctTimer_eq]
  exact .of_same rfl rfl

@[simp] theorem State.queueEvent_lasting (s : State) (e : EventRecord) :
    (s.queueEvent e).lasting = s.lasting := rfl

theorem foreignHeard_endures (s : State) (n : Nat) (tag : Byte) : s.Endures (s.foreignHeard n tag) := by
  unfold State.foreignHeard
  dsimp only
  split
  · exact .of_same rfl rfl
  · exact .of_same rfl rfl

theorem enterStandby_endures (s : State) : s.Endures s.enterStandby := .of_same rfl rfl

theorem failToListen_endures (s : State) (cause : ChangeCause) :
    s.Endures (s.failToListen cause) := by
  unfold State.failToListen
  dsimp only
  split
  · exact .of_same rfl rfl
  · exact .of_same rfl rfl

theorem failToJoining_endures (s : State) (cause : ChangeCause) :
    s.Endures (s.failToJoining cause) := by
  unfold State.failToJoining
  dsimp only
  split
  · exact .of_same rfl rfl
  · exact .of_same rfl rfl

theorem honourLeave_endures (s : State) : s.Endures s.honourLeave := by
  unfold State.honourLeave
  split
  · exact enterStandby_endures s
  · exact .refl s

/-! ### Watches and contributions -/

theorem lasting_watch (s : State) (watch : WatchUnit) (events : List EventRecord) :
    ({ s with watch := watch, events := events } : State).lasting = s.lasting := rfl

theorem evaluateWatches_endures (s : State) (cell : Fin 32) (kind : ContributionKind)
    (origin : Nat) : s.Endures (s.evaluateWatches cell kind origin) := by
  refine ⟨?_, fun h => watchLaw_evaluateWatches h cell kind origin⟩
  rw [evaluateWatches_eq, lasting_watch]

theorem reevaluateWatches_endures (s : State) : s.Endures s.reevaluateWatches := by
  refine ⟨?_, watchLaw_reevaluateWatches⟩
  rw [reevaluateWatches_eq, lasting_watch]

theorem applyToCell_endures (s : State) (origin : Nat) (c : Contribution) :
    s.Endures (s.applyToCell origin c) :=
  .after (evaluateWatches_endures _ c.cell c.kind origin) rfl rfl

theorem applyContribution_endures (origin : Nat) (s : State) (c : Contribution) :
    s.Endures (State.applyContribution origin s c) :=
  (applyToCell_endures s origin c).keeping rfl rfl

theorem applyOwn_endures (origin : Nat) (s : State) (c : Contribution) :
    s.Endures (State.applyOwn origin s c) :=
  (applyContribution_endures origin s c).keeping rfl rfl

theorem followContributions_endures (s : State) (f : TallyFrame) :
    s.Endures (s.followContributions f) := by
  refine foldl_endures (fun s c => ?_) _ s
  unfold State.followContribution
  split
  · exact (applyToCell_endures s f.sender c).keeping rfl rfl
  · exact .of_same rfl rfl

/-! ### Posts and the donor -/

theorem settlePosts_endures (s : State) : s.Endures s.settlePosts := by
  rw [settlePosts_eq]
  exact .of_same rfl rfl

theorem doubtPosts_endures (s : State) : s.Endures s.doubtPosts := by
  rw [doubtPosts_eq]
  exact .of_same rfl rfl

theorem joinRequest_endures (s : State) (n : Nat) : s.Endures (s.joinRequest n) := by
  rw [joinRequest_eq]
  exact .of_same rfl rfl

theorem takeVerdict_endures (s : State) (n : Nat) (v : Verdict) : s.Endures (s.takeVerdict n v) := by
  rw [takeVerdict_eq]
  exact .of_same rfl rfl

theorem serviceAfterAdding_endures (s : State) (n : Nat) : s.Endures (s.serviceAfterAdding n) := by
  unfold State.serviceAfterAdding
  split
  · split
    · exact .of_same rfl rfl
    · exact .refl s
  · exact .refl s

theorem donorDecision_endures (s : State) : s.Endures s.donorDecision.1 := by
  rw [donorDecision_eq]
  exact .of_same rfl rfl

/-! ### The joiner -/

theorem abortTransfer_endures (s : State) : s.Endures s.abortTransfer :=
  .after (failToJoining_endures _ .transferAbort) rfl rfl

theorem foreignHeard_abortTransfer_endures (s : State) (n : Nat) (tag : Byte) :
    s.Endures (s.foreignHeard n tag).abortTransfer :=
  (foreignHeard_endures s n tag).trans (abortTransfer_endures _)

theorem admission_endures (s : State) (r : Receiving) : s.Endures (s.admission r) := by
  have hview : s.Endures ((s.setReceiving none).setView
      (stationAdd r.followed (s.setReceiving none).stationNumber)) :=
    .after (setView_endures (s.setReceiving none) _) rfl rfl
  unfold State.admission
  refine State.Endures.trans ?_ (reevaluateWatches_endures _)
  exact hview.keeping rfl rfl

theorem acceptDonorFrame_endures (s : State) (r : Receiving) (f : TallyFrame)
    (x : TransferSection) : s.Endures (s.acceptDonorFrame r f x) := by
  have hfollowed : s.Endures (((s.installCells x).setReceiving
      (some { r with next := r.next + 4 })).followContributions f) :=
    .after (followContributions_endures _ f) rfl rfl
  unfold State.acceptDonorFrame
  dsimp only
  refine State.Endures.trans ?_ (correctTimer_endures _)
  split
  · exact hfollowed.trans (admission_endures _ _)
  · exact hfollowed

theorem donorSlot_endures (s : State) (r : Receiving) (v : Verdict) : s.Endures (s.donorSlot r v) := by
  unfold State.donorSlot
  split
  · next f =>
    split
    · split
      · next x hx =>
        split
        · exact acceptDonorFrame_endures s r f x
        · exact abortTransfer_endures s
      · exact abortTransfer_endures s
    · exact abortTransfer_endures s
  · exact abortTransfer_endures s
  · next f => exact foreignHeard_abortTransfer_endures s _ f.tag
  · exact abortTransfer_endures s
  · exact abortTransfer_endures s

theorem followedSlot_endures (s : State) (r : Receiving) (v : Verdict) :
    s.Endures (s.followedSlot r v) := by
  unfold State.followedSlot
  split
  · next f =>
    split
    · refine State.Endures.trans ?_ (correctTimer_endures _)
      exact (followContributions_endures s f).keeping rfl rfl
    · exact abortTransfer_endures s
  · exact .of_same rfl rfl
  · exact .of_same rfl rfl
  · next f => exact foreignHeard_abortTransfer_endures s _ f.tag
  · exact abortTransfer_endures s

theorem outsideSlot_endures (s : State) (v : Verdict) : s.Endures (s.outsideSlot v) := by
  unfold State.outsideSlot
  split
  · split
    · exact correctTimer_endures s
    · exact .refl s
  · exact .refl s
  · next f => exact foreignHeard_endures s _ f.tag
  · exact .refl s
  · exact .refl s

/-! ### The slot ends of a member -/

theorem admitJoiner_endures (s : State) (joiner : Nat) : s.Endures (s.admitJoiner joiner) := by
  unfold State.admitJoiner
  split
  · exact .of_same rfl rfl
  · refine State.Endures.keeping (State.Endures.trans ?_ (serviceAfterAdding_endures _ joiner))
      (State.queueEvent_lasting _ _) rfl
    exact (setView_endures s _).keeping rfl rfl

theorem actOnAdmit_endures (s : State) (f : TallyFrame) : s.Endures (s.actOnAdmit f) := by
  unfold State.actOnAdmit
  split
  · next x hx =>
    split
    · exact admitJoiner_endures s x.joiner
    · exact .refl s
  · exact .refl s

theorem actOnFarewell_endures (s : State) (f : TallyFrame) : s.Endures (s.actOnFarewell f) := by
  unfold State.actOnFarewell
  split
  · exact (setView_endures s _).keeping rfl rfl
  · exact .refl s

theorem acceptFrame_endures (s : State) (f : TallyFrame) : s.Endures (s.acceptFrame f) := by
  have happlied : s.Endures
      (f.contributions.foldl (State.applyContribution f.sender) s).countAgree :=
    (foldl_endures (applyContribution_endures f.sender) _ s).keeping rfl rfl
  exact ((happlied.trans (actOnAdmit_endures _ f)).trans (actOnFarewell_endures _ f)).trans
    (correctTimer_endures _)

theorem exclude_endures (s : State) (cause : ChangeCause) : s.Endures (s.exclude cause) := by
  have hdoubted : s.Endures (s.setView 0).doubtPosts :=
    (setView_endures s 0).trans (doubtPosts_endures _)
  have hlatched : s.Endures
      (s.setView 0).doubtPosts.emptyDonor.clearCounts.latchExcluded :=
    hdoubted.keeping rfl rfl
  exact (hlatched.trans (failToListen_endures _ cause)).trans (honourLeave_endures _)

theorem dropPeer_endures (s : State) (m reason badReason : Nat) :
    s.Endures (s.dropPeer m reason badReason) :=
  (setView_endures s _).keeping rfl rfl

theorem memberSlot_endures (s : State) (m : Nat) (v : Verdict) : s.Endures (s.memberSlot m v) := by
  have hdissent : ∀ reason badReason, s.Endures (s.countDissent.dropPeer m reason badReason) :=
    fun reason badReason => .after (dropPeer_endures _ m reason badReason) rfl rfl
  unfold State.memberSlot
  split
  · exact dropPeer_endures s m 1 0
  · exact hdissent 2 _
  · next f =>
    split
    · exact acceptFrame_endures s f
    · exact hdissent 3 0
  · exact (dropPeer_endures s m 4 0).trans (joinRequest_endures _ m)
  · exact hdissent 3 0

theorem noteNonMember_endures (s : State) (n : Nat) (v : Verdict) :
    s.Endures (s.noteNonMember n v) := by
  obtain ⟨y, rfl⟩ | ⟨g, rfl⟩ | hsame := noteNonMember_cases n v
  · exact .of_same rfl rfl
  · exact noteNonMember_foreign s n g ▸ foreignHeard_endures s n g.tag
  · rw [hsame]
    exact .refl s

theorem nonMemberSlot_endures (s : State) (n : Nat) (v : Verdict) :
    s.Endures (s.nonMemberSlot n v) :=
  (noteNonMember_endures s n v).trans (takeVerdict_endures _ n v)

theorem ownFrameIntact_endures (s : State) (f : TallyFrame) : s.Endures (s.ownFrameIntact f) := by
  have hacted : s.Endures ((f.contributions.foldl (State.applyOwn f.sender) s).actOnAdmit f) :=
    (foldl_endures (applyOwn_endures f.sender) _ s).trans (actOnAdmit_endures _ f)
  unfold State.ownFrameIntact
  dsimp only
  split
  · exact (hacted.trans (setView_endures _ 0)).keeping rfl rfl
  · exact hacted

theorem ownSlotEnd_endures (s : State) (v : Verdict) : s.Endures (s.ownSlotEnd v) := by
  unfold State.ownSlotEnd
  split
  · exact .refl s
  · split
    · next f hf => exact ownFrameIntact_endures s f
    · exact .refl s
    · exact exclude_endures s .loopback

theorem judgeMember_endures (s : State) (v : Verdict) : s.Endures (s.judgeMember v) := by
  unfold State.judgeMember
  dsimp only
  split
  · exact ownSlotEnd_endures s v
  · split
    · exact memberSlot_endures s _ v
    · exact nonMemberSlot_endures s _ v

/-! ### The own slot -/

theorem clearFailures_endures (s : State) (founder : Bool) : s.Endures (s.clearFailures founder) := by
  unfold State.clearFailures
  split
  · exact .refl s
  · exact .of_same rfl rfl

theorem keepInView_endures (s : State) (founder : Bool) : s.Endures (s.keepInView founder) := by
  have hcleared : s.Endures s.settlePosts.clearCounts := (settlePosts_endures s).keeping rfl rfl
  have hsettled := hcleared.trans (clearFailures_endures _ founder)
  unfold State.keepInView
  dsimp only
  split
  · exact hsettled.keeping rfl rfl
  · exact (hsettled.trans (donorDecision_endures _)).keeping rfl rfl

theorem ownSlotEvaluation_endures (s : State) (founder : Bool) :
    s.Endures (s.ownSlotEvaluation founder) := by
  unfold State.ownSlotEvaluation
  split
  · exact exclude_endures s .excluded
  · exact keepInView_endures s founder

theorem joiningStep_endures (s : State) : s.Endures s.joiningStep := by
  unfold State.joiningStep
  split
  · exact .of_same rfl rfl
  · exact failToListen_endures s .joinTimeout

theorem ownSlotStart_endures (s : State) : s.Endures s.ownSlotStart := by
  unfold State.ownSlotStart
  split
  · split
    · exact .after (joiningStep_endures _) rfl rfl
    · exact .refl s
  · exact joiningStep_endures s
  · unfold State.receivingStep
    split
    · exact .of_same rfl rfl
    · exact .refl s
  · exact ownSlotEvaluation_endures s false
  all_goals exact .refl s

/-! ### The slot ends outside MEMBER -/

theorem judgeListen_endures (s : State) (v : Verdict) : s.Endures (s.judgeListen v) := by
  unfold State.judgeListen
  dsimp only
  split
  · split
    · exact .after (correctTimer_endures _) rfl rfl
    · exact .after (correctTimer_endures _) rfl rfl
  · next f => exact .after (foreignHeard_endures _ _ f.tag) rfl rfl
  · exact .of_same rfl rfl
  · exact .of_same rfl rfl

theorem ownJoinEnd_endures (s : State) (v : Verdict) : s.Endures (s.ownJoinEnd v) := by
  unfold State.ownJoinEnd
  split
  · exact .refl s
  · split
    · exact .refl s
    · exact .after (failToListen_endures _ .loopback) rfl rfl

theorem transferBegun_endures (s : State) (f : TallyFrame) (x : TransferSection) :
    s.Endures (s.transferBegun f x) := by
  unfold State.transferBegun State.beginTransfer
  refine State.Endures.trans ?_ (correctTimer_endures _)
  exact .after (followContributions_endures _ f) rfl rfl

theorem joiningTally_endures (s : State) (f : TallyFrame) : s.Endures (s.joiningTally f) := by
  have haccepted : s.Endures (if f.round = s.bus.round then s.correctTimer else s) := by
    split
    · exact correctTimer_endures s
    · exact .refl s
  unfold State.joiningTally
  dsimp only
  split
  · next x hx =>
    split
    · split
      · exact transferBegun_endures s f x
      · exact correctTimer_endures s
    · exact haccepted
  · exact haccepted

theorem judgeJoining_endures (s : State) (v : Verdict) : s.Endures (s.judgeJoining v) := by
  unfold State.judgeJoining
  split
  · next f => exact joiningTally_endures s f
  · split
    · exact correctTimer_endures s
    · exact .refl s
  · next f => exact foreignHeard_endures s _ f.tag
  · exact .refl s
  · exact .refl s

theorem judgeReceiving_endures (s : State) (v : Verdict) : s.Endures (s.judgeReceiving v) := by
  unfold State.judgeReceiving
  split
  · exact .refl s
  · next r hr =>
    split
    · exact donorSlot_endures s r v
    · split
      · exact followedSlot_endures s r v
      · exact outsideSlot_endures s v

theorem judgeSlot_endures (s : State) (v : Verdict) : s.Endures (s.judgeSlot v) := by
  unfold State.judgeSlot
  split
  · exact judgeListen_endures s v
  · split
    · exact ownJoinEnd_endures s v
    · exact judgeJoining_endures s v
  · split
    · exact ownJoinEnd_endures s v
    · exact judgeReceiving_endures s v
  · exact judgeMember_endures s v
  all_goals exact .refl s

theorem unsynchronisedFrame_endures (s : State) (v : Verdict) (age : Nat) :
    s.Endures (s.unsynchronisedFrame v age) := by
  unfold State.unsynchronisedFrame
  split
  · exact .of_same rfl rfl
  · exact .refl s
  · next f => exact foreignHeard_endures s f.sender f.tag
  · exact .refl s
  · exact .refl s

/-- R28, R100, R104: a founder's schedule and its change of state. -/
def State.foundedSchedule (s : State) : State :=
  { s.foundSchedule with
    controller := { s.foundSchedule.controller with listenTimer := 0 } }.changeState .member .founded

/-- R104: a founder's picture of the cluster: itself, and digest 0. -/
def State.foundedPicture (s : State) : State :=
  let alone := (s.foundedSchedule.setView (stationOnly s.stationNumber)).clearCounts
  { alone with agreement := { alone.agreement with digest := 0 } }

theorem found_eq (s : State) :
    s.found = s.foundedPicture.reevaluateWatches.ownSlotEvaluation true := rfl

theorem foundedPicture_endures (s : State) : s.Endures s.foundedPicture := by
  have hschedule : s.Endures s.foundedSchedule := .of_same rfl rfl
  exact (hschedule.trans (setView_endures _ (stationOnly s.stationNumber))).keeping rfl rfl

theorem found_endures (s : State) : s.Endures s.found := by
  rw [found_eq]
  exact ((foundedPicture_endures s).trans (reevaluateWatches_endures _)).trans
    (ownSlotEvaluation_endures _ true)

/-! ### The line and the slot boundary -/

theorem passTime_endures (s : State) (n : Nat) : s.Endures (s.passTime n) := .of_same rfl rfl

theorem endRun_endures (s : State) : s.Endures s.endRun := by
  unfold State.endRun
  split
  · exact .refl s
  · dsimp only
    split
    · split
      · exact .of_same rfl rfl
      · exact .after (unsynchronisedFrame_endures _ _ _) rfl rfl
    · exact .of_same rfl rfl

theorem endRunIfOver_endures (s : State) : s.Endures s.endRunIfOver := by
  unfold State.endRunIfOver
  split
  · exact endRun_endures s
  · exact .refl s

theorem storeCharacter_endures (s : State) (count : Nat) (b : Byte) :
    s.Endures (s.storeCharacter count b) := by
  unfold State.storeCharacter
  split
  · exact .of_same rfl rfl
  · exact .refl s

theorem beginRun_endures (s : State) (samples : BitVec 10) : s.Endures (s.beginRun samples) := by
  unfold State.beginRun
  split
  · split
    · dsimp only
      split
      · exact .after (storeCharacter_endures _ _ _) rfl rfl
      · exact .of_same rfl rfl
    all_goals exact .of_same rfl rfl
  · exact .after (storeCharacter_endures _ _ _) rfl rfl

theorem extendRun_endures (s : State) (r : Run) (samples : BitVec 10) :
    s.Endures (s.extendRun r samples) := by
  unfold State.extendRun
  dsimp only
  split
  · exact .after (storeCharacter_endures _ _ _) rfl rfl
  · exact .of_same rfl rfl

theorem reportActivity_endures (s : State) : s.Endures s.reportActivity := by
  unfold State.reportActivity
  split
  · exact .of_same rfl rfl
  · exact .refl s

theorem captureCharacter_endures (s : State) (b : Byte) : s.Endures (s.captureCharacter b) := by
  unfold State.captureCharacter
  split
  · exact .of_same rfl rfl
  · exact .refl s

theorem startCharacter_endures (s : State) (samples : BitVec 10) :
    s.Endures (s.startCharacter samples) := by
  unfold State.startCharacter
  dsimp only
  refine State.Endures.trans ?_ (captureCharacter_endures _ _)
  split
  · exact (reportActivity_endures s).trans (extendRun_endures _ _ samples)
  · exact (reportActivity_endures s).trans (beginRun_endures _ samples)

theorem fallOnRxd_endures (s : State) (gap : Nat) (fall : RxdFall) :
    s.Endures (s.fallOnRxd gap fall) := by
  unfold State.fallOnRxd
  dsimp only
  split
  · split
    · refine State.Endures.trans ?_ (startCharacter_endures _ _)
      exact ((passTime_endures s _).trans (endRunIfOver_endures _)).keeping rfl rfl
    · exact .of_same rfl rfl
  · exact .of_same rfl rfl

theorem runOver_endures (s : State) (gap : Nat) : s.Endures (s.runOver gap) := by
  unfold State.runOver
  split
  · exact .refl s
  · exact (passTime_endures s _).trans (endRun_endures _)

theorem finishTransmission_endures (s : State) : s.Endures s.finishTransmission := by
  unfold State.finishTransmission
  dsimp only
  split
  · exact .of_same rfl rfl
  · exact .of_same rfl rfl

theorem signalOwnSlot_endures (s : State) : s.Endures s.signalOwnSlot := by
  unfold State.signalOwnSlot
  split
  · exact ownSlotStart_endures s
  · exact .refl s

theorem numbersOnLeaving_endures (s : State) : s.Endures s.numbersOnLeaving := by
  unfold State.numbersOnLeaving
  split
  · exact .of_same rfl rfl
  · exact .refl s

theorem slotBoundary_endures (s : State) : s.Endures s.slotBoundary := by
  have hjudged := judgeSlot_endures s s.slotVerdict
  unfold State.slotBoundary
  dsimp only
  split
  · refine State.Endures.trans ?_ (signalOwnSlot_endures _)
    exact hjudged.keeping rfl rfl
  · exact hjudged.trans (numbersOnLeaving_endures _)

theorem endSlot_endures (s : State) : s.Endures s.endSlot := by
  have hfinished : s.Endures (if s.bus.tx = .sending then s.finishTransmission else s) := by
    split
    · exact finishTransmission_endures s
    · exact .refl s
  unfold State.endSlot
  dsimp only
  generalize (if s.bus.tx = .sending then s.finishTransmission else s) = finished at hfinished ⊢
  split
  · exact ((hfinished.trans (passTime_endures _ _)).trans (endRunIfOver_endures _)).trans
      (slotBoundary_endures _)
  · exact hfinished

/-- R24 to R37, R103: a command of the bus side leaves all of it as it is. -/
theorem busSide_endures {i : Instr} (hi : onBusSide i = true) (s : State) :
    ∃ t, exec i s = .next t ∧ s.Endures t := by
  cases i with
  | busActivity gap fall => exact ⟨_, rfl, fallOnRxd_endures s gap fall⟩
  | runEnd gap =>
    refine ⟨_, rfl, ?_⟩
    split
    · exact runOver_endures s gap
    · exact .refl s
  | slotEnd =>
    refine ⟨_, rfl, ?_⟩
    split
    · exact endSlot_endures s
    · exact .refl s
  | ownTransmissionStart =>
    refine ⟨_, rfl, ?_⟩
    split
    · exact .of_same rfl rfl
    · exact .refl s
  | transmissionEnd =>
    refine ⟨_, rfl, ?_⟩
    split
    · exact finishTransmission_endures s
    · exact .refl s
  | listenTimerExpiry =>
    refine ⟨_, rfl, ?_⟩
    split
    · exact (passTime_endures s _).trans (found_endures _)
    · exact .refl s
  | _ => cases hi

end Sys2Proof.Machine
end

section
/-! PROOF. Everything a request can do (R163 to R166): the claim of each request as one of a few moves of the
station, what the select period makes of a request, and from them what no command touches: the commands that
wait, the configuration, the cells and the digest, and the law of the watch table. -/

namespace Sys2Proof.Machine

-- One theorem after another: each proof checked beside another takes a thread with memory of its own.
set_option Elab.async false

/-! ### The moves of the claims -/

/-- R168: a record that passed checks 2 to 5 is in range. -/
theorem inRange_of_configurationOf {params : List Byte} {c : Configuration}
    (h : configurationOf params = some c) : c.InRange := by
  unfold configurationOf at h
  split at h
  · split at h
    · next hfigures =>
      cases h
      obtain ⟨h2, h16, hstation, hrate, hlow, hhigh⟩ := hfigures
      exact ⟨h2, h16, hstation, hrate, hlow, hhigh⟩
    · cases h
  · cases h

/-- R169: the station with an accepted configuration installed. -/
def State.configuredWith (s : State) (c : Configuration) : State :=
  { s with
    config := some c
    cells := Vector.replicate 32 Cell.initial
    frameCheck := { s.frameCheck with tag := some (configTagOf c) }
    controller := { s.controller with state := .ready }
    events := if s.controller.state = .unconfigured then
        arrive s.events (stateChanged s.bus.round s.bus.slot c.station .configured .ready
          s.controller.failures)
      else s.events }

/-- R87: the queue without the post of a tag. -/
def State.withoutPost (s : State) (tag : Byte) : State :=
  { s with posts := { s.posts with posts := s.posts.posts.filter (·.tag ≠ tag) } }

/-- R102: the station in LISTEN by START. -/
def State.started (s : State) : State :=
  { s with
    controller := { s.controller with failures := 0 }
    agreement := { s.agreement with foreignSeen := 0 } }.enterListen .hostStart

/-- R138, R141: a watch SET WATCH may store: as its condition has it, and unlike every entry. -/
def State.MayWatch (s : State) (w : Watch) : Prop :=
  w.threshold = storedThreshold w.condition w.threshold ∧
    (w.condition = .change → w.line = none) ∧
    s.duplicateWatch w.cell w.condition w.threshold = false

/-- Everything the claim of a request code can do to the station. -/
inductive State.Claimed (s : State) (code : Byte) : State → Prop
  | same : s.Claimed code s
  | marks (m : Latches) : s.Claimed code { s with host := { s.host with marks := m } }
  | resetPending : s.Claimed code { s with host := { s.host with resetPending := true } }
  | configured (c : Configuration) (hcode : code.toNat = 0x02) (hc : c.InRange)
      (hstate : s.controller.state = .unconfigured ∨ s.controller.state = .ready) :
      s.Claimed code (s.configuredWith c)
  | started (hstate : s.controller.state.startable = true) : s.Claimed code s.started
  | leaveLater (hstate : s.controller.state = .member) :
      s.Claimed code { s with controller := { s.controller with pendingLeave := true } }
  | leaveAtTxEnd (hstate : s.controller.state = .joining ∨ s.controller.state = .receiving)
      (htx : s.bus.tx = .sending) :
      s.Claimed code { s with controller := { s.controller with leaveAtTxEnd := true } }
  | leave (hstate : s.controller.state = .listen ∨ s.controller.state = .joining ∨
      s.controller.state = .receiving) : s.Claimed code s.enterStandby
  | posted (kind : ContributionKind) (cell : Fin 32) (operand : Operand)
      (hroom : s.posts.posts.length < 16) : s.Claimed code (s.appendPost kind cell operand)
  | cancelled (tag : Byte) (p : Post) (hfind : s.posts.find tag = some p)
      (hqueued : p.queued = true) : s.Claimed code (s.withoutPost tag)
  | watched (i : Fin 16) (w : Watch) (hw : s.MayWatch w) : s.Claimed code (s.fillEntry i w).1
  | cleared (i : Fin 16) : s.Claimed code (s.setEntry i none)
  | clearedAll : s.Claimed code { s with watch := .ofEntries (Vector.replicate 16 none) }

theorem claimConfigure_claimed (s : State) {code : Byte} (hcode : code.toNat = 0x02)
    (params : List Byte) : s.Claimed code (s.claimConfigure params).1 := by
  by_cases hstate : s.controller.state = .unconfigured ∨ s.controller.state = .ready
  · cases hc : configurationOf params with
    | none =>
      rw [claimConfigure_range hstate hc]
      exact .same
    | some c =>
      rw [claimConfigure_accepted hstate hc]
      exact .configured c hcode (inRange_of_configurationOf hc) hstate
  · rw [claimConfigure_state (not_or.mp hstate)]
    exact .same

theorem claimStart_claimed (s : State) (code : Byte) : s.Claimed code s.claimStart.1 := by
  unfold State.claimStart
  split
  · next h => exact .started h
  · exact .same

theorem leaveJoiner_claimed (s : State) (code : Byte)
    (hstate : s.controller.state = .joining ∨ s.controller.state = .receiving) :
    s.Claimed code s.leaveJoiner := by
  unfold State.leaveJoiner
  split
  · next htx => exact .leaveAtTxEnd hstate htx
  · exact .leave (.inr hstate)

theorem claimLeave_claimed (s : State) (code : Byte) : s.Claimed code s.claimLeave.1 := by
  unfold State.claimLeave
  split
  · next h => exact .leaveLater h
  · next h => exact .leave (.inl h)
  · next h => exact leaveJoiner_claimed s code (.inl h)
  · next h => exact leaveJoiner_claimed s code (.inr h)
  all_goals exact .same

theorem claimPost_claimed (s : State) (code : Byte) (params : List Byte) :
    s.Claimed code (s.claimPost params).1 := by
  unfold State.claimPost
  split
  · split
    · exact .same
    · split
      · split
        · next hroom => exact .posted _ _ _ hroom
        · exact .same
      · exact .same
  · exact .same

theorem claimCancel_claimed (s : State) (code : Byte) (params : List Byte) :
    s.Claimed code (s.claimCancel params).1 := by
  unfold State.claimCancel
  split
  · split
    · next p hp =>
      split
      · next hqueued => exact .cancelled _ p hp hqueued
      · exact .same
    · exact .same
  · exact .same

theorem claimQueryPost_claimed (s : State) (code : Byte) (params : List Byte) :
    s.Claimed code (s.claimQueryPost params).1 := by
  unfold State.claimQueryPost
  split
  · split
    · split <;> exact .same
    · exact .same
  · exact .same

theorem claimReadCell_claimed (s : State) (code : Byte) (params : List Byte) :
    s.Claimed code (s.claimReadCell params).1 := by
  unfold State.claimReadCell
  split
  · split <;> exact .same
  · exact .same

theorem storedThreshold_stored (condition : WatchCondition) (t : CellValue) :
    storedThreshold condition t = storedThreshold condition (storedThreshold condition t) := by
  cases condition <;> rfl

theorem claimSetWatch_claimed (s : State) (code : Byte) (params : List Byte) :
    s.Claimed code (s.claimSetWatch params).1 := by
  unfold State.claimSetWatch State.setWatchChecked
  split
  · split
    · exact .same
    · split
      · dsimp only
        split
        · exact .same
        · next hline =>
          split
          · exact .same
          · next hnew =>
            split
            · next i hi =>
              refine .watched i _ ⟨storedThreshold_stored _ _, fun hchange => ?_, ?_⟩
              · exact not_not.mp fun hne => hline ⟨hchange, hne⟩
              · exact Bool.eq_false_iff.mpr hnew
            · exact .same
      · exact .same
  · exact .same

theorem claimClearWatch_claimed (s : State) (code : Byte) (params : List Byte) :
    s.Claimed code (s.claimClearWatch params).1 := by
  unfold State.claimClearWatch
  split
  · split
    · split
      · exact .cleared _
      · exact .same
    · split
      · exact .clearedAll
      · exact .same
  · exact .same

theorem claimReadWatch_claimed (s : State) (code : Byte) (params : List Byte) :
    s.Claimed code (s.claimReadWatch params).1 := by
  unfold State.claimReadWatch
  split
  · split
    · split <;> exact .same
    · exact .same
  · exact .same

theorem claimTakeEvent_claimed (s : State) (code : Byte) : s.Claimed code s.claimTakeEvent.1 := by
  unfold State.claimTakeEvent
  split <;> exact .same

theorem claim_claimed (s : State) (code : Byte) (params : List Byte) :
    s.Claimed code (s.claim code params).1 := by
  unfold State.claim
  split
  · exact .marks _
  · next hcode => exact claimConfigure_claimed s hcode params
  · exact claimStart_claimed s code
  · exact claimLeave_claimed s code
  · exact .resetPending
  · exact claimPost_claimed s code params
  · exact claimCancel_claimed s code params
  · exact claimQueryPost_claimed s code params
  · exact claimReadCell_claimed s code params
  · exact claimSetWatch_claimed s code params
  · exact claimClearWatch_claimed s code params
  · exact claimReadWatch_claimed s code params
  · exact claimTakeEvent_claimed s code
  · exact .same

/-! ### The select period -/

/-- R163, R165: the request code a select period is at, when a request with a code is shifted. -/
def State.TakenCode (s : State) (code known : Byte) : Prop :=
  (s.host.phase = .code ∧ known = code) ∨ ∃ received, s.host.phase = .parameters known received

/-- Everything a request can do: nothing, or a claim, or none yet, and then a new select phase. -/
inductive State.Requested (s : State) (code : Byte) : State → Prop
  | same : s.Requested code s
  | phased (t : State) (p : SelectPhase) (known : Byte) (hknown : s.TakenCode code known)
      (ht : s.Claimed known t) : s.Requested code (t.setPhase p)

theorem gather_requested {s : State} {code known : Byte} (hknown : s.TakenCode code known)
    (received : List Byte) : s.Requested code (s.gather known received) := by
  unfold State.gather
  dsimp only
  split
  · exact .phased _ _ known hknown (claim_claimed s known _)
  · exact .phased s _ known hknown .same

theorem shiftRequest_requested (s : State) (code : Byte) (params : List Byte) :
    s.Requested code (s.shiftRequest code params) := by
  unfold State.shiftRequest
  split
  · next hphase => exact gather_requested (.inl ⟨hphase, rfl⟩) params
  · next known received hphase => exact gather_requested (.inr ⟨received, hphase⟩) _
  · exact .same
  · exact .same

theorem exec_requested {i : Instr} {code : Byte} {params : List Byte}
    (hi : requestOf i = some (code, params)) (s : State) :
    ∃ t, exec i s = .next t ∧ s.Requested code t :=
  ⟨_, exec_eq_shiftRequest hi s, shiftRequest_requested s code params⟩

/-! ### What the requests leave as it is -/

theorem claimed_pending {s t : State} {code : Byte} (h : s.Claimed code t) :
    t.pending = s.pending := by
  cases h with
  | watched i w _ => rw [fillEntry_eq]
  | _ => rfl

theorem requested_pending {s t : State} {code : Byte} (h : s.Requested code t) :
    t.pending = s.pending := by
  cases h with
  | same => rfl
  | phased u p known _ hu => exact claimed_pending (t := u) hu

/-- R142: a new watch, with the state its test finds, in a table without its like. -/
theorem watchLaw_fillEntry {s : State} (h : s.WatchLaw) {w : Watch} (hw : s.MayWatch w)
    (i : Fin 16) : (s.fillEntry i w).1.WatchLaw := by
  obtain ⟨hthreshold, hline, hnew⟩ := hw
  obtain ⟨hsound, -⟩ := (watchLaw_iff s).mp h
  rw [fillEntry_eq]
  refine watchLaw_ofEntries rfl (soundTable_set_some hsound ?_ fun j _ => ?_)
  · simp only [soundEntry, Bool.and_eq_true, Bool.or_eq_true, decide_eq_true_eq, Bool.not_eq_true']
    refine ⟨hthreshold, ?_⟩
    by_cases hchange : w.condition = .change
    · refine .inr ⟨?_, hline hchange⟩
      rw [State.testWatch, hchange]
      rfl
    · exact .inl hchange
  · refine Bool.eq_false_iff.mpr fun hequal => Bool.eq_false_iff.mp hnew ?_
    rw [duplicateWatch_iff]
    cases hentry : s.watch.entries[j] with
    | none => rw [hentry] at hequal; cases hequal
    | some v =>
      rw [hentry] at hequal
      simp only [equalWatches, Bool.and_eq_true, decide_eq_true_eq] at hequal
      obtain ⟨⟨hcell, hcondition⟩, hthreshold⟩ := hequal
      exact ⟨j, v, hentry, hcell.symm, hcondition.symm, hthreshold.symm⟩

theorem claimed_watchLaw {s t : State} {code : Byte} (h : s.Claimed code t) (hs : s.WatchLaw) :
    t.WatchLaw := by
  have hsound := ((watchLaw_iff s).mp hs).1
  cases h with
  | watched i w hw => exact watchLaw_fillEntry hs hw i
  | cleared i => exact watchLaw_ofEntries rfl (soundTable_set_none hsound i)
  | clearedAll => exact watchLaw_ofEntries rfl soundTable_empty
  | _ => exact hs

theorem requested_watchLaw {s t : State} {code : Byte} (h : s.Requested code t) (hs : s.WatchLaw) :
    t.WatchLaw := by
  cases h with
  | same => exact hs
  | phased u p known _ hu => exact claimed_watchLaw (t := u) hu hs

/-! ### The configuration, the cells and the digest (R2, R26, R101) -/

/-- The configuration with its tag, the cells and the digest. -/
structure Table where
  config : Option Configuration
  tag : Option Byte
  cells : Vector Cell 32
  digest : Digest

def State.table (s : State) : Table := ⟨s.config, s.frameCheck.tag, s.cells, s.agreement.digest⟩

theorem table_cells (s : State) : s.table.cells = s.cells := rfl

theorem table_digest (s : State) : s.table.digest = s.agreement.digest := rfl

theorem claimed_table {s t : State} {code : Byte} (h : s.Claimed code t)
    (hcode : (s.controller.state ≠ .unconfigured ∧ s.controller.state ≠ .ready) ∨
      code.toNat ≠ 0x02) : t.table = s.table := by
  cases h with
  | configured c hconfigure hc hstate =>
    obtain hcode | hcode := hcode
    · obtain h | h := hstate
      · exact absurd h hcode.1
      · exact absurd h hcode.2
    · exact absurd hconfigure hcode
  | watched i w _ => rw [fillEntry_eq]; rfl
  | _ => rfl

theorem requested_table {s t : State} {code : Byte} (h : s.Requested code t)
    (hcode : (s.controller.state ≠ .unconfigured ∧ s.controller.state ≠ .ready) ∨
      ((s.awaitsCode → code ≠ 0x02) ∧ ∀ received, s.host.phase ≠ .parameters 0x02 received)) :
    t.table = s.table := by
  cases h with
  | same => rfl
  | phased t p known hknown ht =>
    refine (claimed_table (t := t) ht (hcode.imp_right fun h hconfigure => ?_))
    obtain ⟨hcode, hparameters⟩ := h
    have htwo : known = 0x02 := BitVec.eq_of_toNat_eq hconfigure
    subst htwo
    obtain ⟨hphase, hsame⟩ | ⟨received, hphase⟩ := hknown
    · exact hcode hphase hsame.symm
    · exact hparameters received hphase

theorem foreignHeard_table (s : State) (n : Nat) (tag : Byte) :
    (s.foreignHeard n tag).table = s.table := by
  unfold State.foreignHeard
  dsimp only
  split <;> rfl

theorem unsynchronisedFrame_table (s : State) (v : Verdict) (age : Nat) :
    (s.unsynchronisedFrame v age).table = s.table := by
  unfold State.unsynchronisedFrame
  split
  · rfl
  · rfl
  · exact foreignHeard_table s _ _
  · rfl
  · rfl

theorem endRun_table (s : State) : s.endRun.table = s.table := by
  unfold State.endRun
  split
  · rfl
  · dsimp only
    split
    · split
      · rfl
      · exact unsynchronisedFrame_table _ _ _
    · rfl

theorem endRunIfOver_table (s : State) : s.endRunIfOver.table = s.table := by
  unfold State.endRunIfOver
  split
  · exact endRun_table s
  · rfl

theorem storeCharacter_table (s : State) (count : Nat) (b : Byte) :
    (s.storeCharacter count b).table = s.table := by
  unfold State.storeCharacter
  split <;> rfl

theorem beginRun_table (s : State) (samples : BitVec 10) : (s.beginRun samples).table = s.table := by
  unfold State.beginRun
  split
  · split
    · dsimp only
      split
      · exact storeCharacter_table _ _ _
      · rfl
    all_goals rfl
  · exact storeCharacter_table _ _ _

theorem extendRun_table (s : State) (r : Run) (samples : BitVec 10) :
    (s.extendRun r samples).table = s.table := by
  unfold State.extendRun
  dsimp only
  split
  · exact storeCharacter_table _ _ _
  · rfl

theorem reportActivity_table (s : State) : s.reportActivity.table = s.table := by
  unfold State.reportActivity
  split <;> rfl

theorem captureCharacter_table (s : State) (b : Byte) : (s.captureCharacter b).table = s.table := by
  unfold State.captureCharacter
  split <;> rfl

theorem startCharacter_table (s : State) (samples : BitVec 10) :
    (s.startCharacter samples).table = s.table := by
  unfold State.startCharacter
  dsimp only
  rw [captureCharacter_table]
  split
  · rw [extendRun_table, reportActivity_table]
  · rw [beginRun_table, reportActivity_table]

theorem fallOnRxd_table (s : State) (gap : Nat) (fall : RxdFall) :
    (s.fallOnRxd gap fall).table = s.table := by
  unfold State.fallOnRxd
  dsimp only
  split
  · split
    · rw [startCharacter_table]
      exact endRunIfOver_table (s.passTime _)
    · rfl
  · rfl

theorem runOver_table (s : State) (gap : Nat) : (s.runOver gap).table = s.table := by
  unfold State.runOver
  split
  · rfl
  · exact endRun_table _

theorem finishTransmission_table (s : State) : s.finishTransmission.table = s.table := by
  unfold State.finishTransmission
  dsimp only
  split <;> rfl

theorem honourLeave_table (s : State) : s.honourLeave.table = s.table := by
  unfold State.honourLeave
  split <;> rfl

theorem failToListen_table (s : State) (cause : ChangeCause) :
    (s.failToListen cause).table = s.table := by
  unfold State.failToListen
  dsimp only
  split <;> rfl

theorem exclude_table (s : State) (cause : ChangeCause) : (s.exclude cause).table = s.table := by
  have hcleared : (s.setView 0).doubtPosts.emptyDonor.clearCounts.latchExcluded.table = s.table := by
    rw [doubtPosts_eq, setView_eq]
    rfl
  unfold State.exclude
  dsimp only
  rw [honourLeave_table, failToListen_table, hcleared]

theorem keepInView_table (s : State) (founder : Bool) : (s.keepInView founder).table = s.table := by
  have hkept : (s.settlePosts.clearCounts.clearFailures founder).table = s.table := by
    unfold State.clearFailures
    split <;> rw [settlePosts_eq] <;> rfl
  unfold State.keepInView
  dsimp only
  split
  · exact hkept
  · unfold State.buildTally
    dsimp only
    rw [donorDecision_eq]
    exact hkept

theorem ownSlotEvaluation_table (s : State) (founder : Bool) :
    (s.ownSlotEvaluation founder).table = s.table := by
  unfold State.ownSlotEvaluation
  split
  · exact exclude_table s .excluded
  · exact keepInView_table s founder

theorem joiningStep_table (s : State) : s.joiningStep.table = s.table := by
  unfold State.joiningStep
  split
  · rfl
  · exact failToListen_table s .joinTimeout

/-- R63, R75, R107, R108, R135: no own slot start reaches the cells or the digest. -/
theorem signalOwnSlot_table (s : State) : s.signalOwnSlot.table = s.table := by
  unfold State.signalOwnSlot State.ownSlotStart
  split
  · split
    · split
      · exact joiningStep_table _
      · rfl
    · exact joiningStep_table s
    · unfold State.receivingStep
      split <;> rfl
    · exact ownSlotEvaluation_table s false
    all_goals rfl
  · rfl

/-- R104: founding keeps the cells as they stand. -/
theorem found_cells (s : State) : s.found.cells = s.cells := by
  have hpicture : s.foundedPicture.cells = s.cells := by
    show (s.foundedSchedule.setView _).cells = s.cells
    rw [setView_eq]
    rfl
  have hretested : s.foundedPicture.reevaluateWatches.cells = s.foundedPicture.cells := by
    rw [reevaluateWatches_eq]
  rw [← table_cells, found_eq, ownSlotEvaluation_table, table_cells, hretested, hpicture]

/-- R1, R2, R26, R60, R101: of the bus side, only a slot end reaches the cells, and only a slot end or the
founding the digest. -/
theorem busSide_table {i : Instr} (hi : onBusSide i = true) (hslot : i ≠ .slotEnd) (s : State) :
    ∃ t, exec i s = .next t ∧ t.cells = s.cells ∧
      (i ≠ .listenTimerExpiry → t.agreement.digest = s.agreement.digest) := by
  have hsame : ∀ t : State, t.table = s.table → t.cells = s.cells ∧
      (i ≠ .listenTimerExpiry → t.agreement.digest = s.agreement.digest) :=
    fun t h => ⟨congrArg Table.cells h, fun _ => congrArg Table.digest h⟩
  cases i with
  | busActivity gap fall => exact ⟨_, rfl, hsame _ (fallOnRxd_table s gap fall)⟩
  | runEnd gap =>
    refine ⟨_, rfl, hsame _ ?_⟩
    split
    · exact runOver_table s gap
    · rfl
  | slotEnd => exact absurd rfl hslot
  | ownTransmissionStart =>
    refine ⟨_, rfl, hsame _ ?_⟩
    split <;> rfl
  | transmissionEnd =>
    refine ⟨_, rfl, hsame _ ?_⟩
    split
    · exact finishTransmission_table s
    · rfl
  | listenTimerExpiry =>
    refine ⟨_, rfl, ?_, fun h => absurd rfl h⟩
    split
    · exact found_cells _
    · rfl
  | _ => cases hi

/-! ### The commands of the host port's lines, and the resets -/

/-- POWER_ON, the RESETn line, the two ends of a select period and the two ends of a reply. -/
def onHostSide (i : Instr) : Bool := (requestOf i).isNone && !onBusSide i

/-- Such a command leaves the waiting commands alone, and the watch table, or resets it. -/
theorem hostSide_cases {i : Instr} (hi : onHostSide i = true) (s : State) :
    ∃ t, exec i s = .next t ∧ t.pending = s.pending ∧
      (t.watch = s.watch ∨ t.watch = .reset) ∧
      (i ≠ .powerOn → i ≠ .resetnAssert → t.config = s.config ∧ t.frameCheck.tag = s.frameCheck.tag ∧
        ((i = .selectEnd → s.host.resetPending = false) → t.table = s.table)) := by
  cases i with
  | powerOn => exact ⟨_, rfl, rfl, .inr rfl, fun h => absurd rfl h⟩
  | resetnAssert => exact ⟨_, rfl, rfl, .inr rfl, fun _ h => absurd rfl h⟩
  | resetnRelease => exact ⟨_, rfl, rfl, .inl rfl, fun _ _ => ⟨rfl, rfl, fun _ => rfl⟩⟩
  | selectStart =>
    refine ⟨_, rfl, ?_⟩
    split
    · exact ⟨rfl, .inl rfl, fun _ _ => ⟨rfl, rfl, fun _ => rfl⟩⟩
    · split <;> exact ⟨rfl, .inl rfl, fun _ _ => ⟨rfl, rfl, fun _ => rfl⟩⟩
  | selectEnd =>
    refine ⟨_, rfl, ?_⟩
    split
    · exact ⟨rfl, .inl rfl, fun _ _ => ⟨rfl, rfl, fun _ => rfl⟩⟩
    · split
      · next hpending =>
        refine ⟨rfl, .inr rfl, fun _ _ => ⟨rfl, rfl, fun hnone => ?_⟩⟩
        rw [hnone rfl] at hpending
        cases hpending
      · exact ⟨rfl, .inl rfl, fun _ _ => ⟨rfl, rfl, fun _ => rfl⟩⟩
  | latchClear =>
    refine ⟨_, rfl, ?_⟩
    split
    · split <;> exact ⟨rfl, .inl rfl, fun _ _ => ⟨rfl, rfl, fun _ => rfl⟩⟩
    all_goals exact ⟨rfl, .inl rfl, fun _ _ => ⟨rfl, rfl, fun _ => rfl⟩⟩
  | eventRemoval =>
    refine ⟨_, rfl, ?_⟩
    split
    · split <;> exact ⟨rfl, .inl rfl, fun _ _ => ⟨rfl, rfl, fun _ => rfl⟩⟩
    all_goals exact ⟨rfl, .inl rfl, fun _ _ => ⟨rfl, rfl, fun _ => rfl⟩⟩
  | _ => cases hi

/-- A command is a request, one of the bus side or one of the host side. -/
theorem instr_sides (i : Instr) :
    (∃ code params, requestOf i = some (code, params)) ∨ onBusSide i = true ∨ onHostSide i = true := by
  cases hrequest : requestOf i with
  | some request => exact .inl ⟨_, _, rfl⟩
  | none =>
    cases hbus : onBusSide i with
    | true => exact .inr (.inl rfl)
    | false => exact .inr (.inr (by rw [onHostSide, hrequest, hbus]; rfl))

/-- Settles O2: the requests, the bus side and the host side one by one. -/
theorem everyCommandCompletes : Obligations.EveryCommandCompletes := by
  intro i s
  obtain ⟨code, params, hi⟩ | hi | hi := instr_sides i
  · obtain ⟨t, ht, hrequested⟩ := exec_requested hi s
    exact ⟨t, ht, requested_pending hrequested⟩
  · obtain ⟨t, ht, hendures⟩ := busSide_endures hi s
    exact ⟨t, ht, congrArg Lasting.pending hendures.lasting⟩
  · obtain ⟨t, ht, hpending, -⟩ := hostSide_cases hi s
    exact ⟨t, ht, hpending⟩

/-- Settles O60: the bus side by its operations, a request by the code it is at. -/
theorem tableAndConfigurationAreFixed : Obligations.TableAndConfigurationAreFixed := by
  intro i s t hexec hpower hresetn hrequest
  obtain ⟨code, params, hi⟩ | hi | hi := instr_sides i
  · obtain ⟨u, hu, hrequested⟩ := exec_requested hi s
    cases hu.symm.trans hexec
    have htable := requested_table hrequested
      ((hrequest (by rw [hi]; exact Option.some_ne_none _)).imp_right fun ⟨hcode, hparameters⟩ =>
        ⟨fun hawaits heq => hcode hawaits (by rw [hi, heq]; rfl), hparameters⟩)
    exact ⟨congrArg Table.config htable, congrArg Table.tag htable, fun _ _ =>
      ⟨congrArg Table.cells htable, fun _ => congrArg Table.digest htable⟩⟩
  · obtain ⟨u, hu, hendures⟩ := busSide_endures hi s
    cases hu.symm.trans hexec
    refine ⟨congrArg Lasting.config hendures.lasting, congrArg Lasting.tag hendures.lasting,
      fun hslot _ => ?_⟩
    obtain ⟨v, hv, htable⟩ := busSide_table hi hslot s
    cases hv.symm.trans hexec
    exact htable
  · obtain ⟨u, hu, -, -, hkept⟩ := hostSide_cases hi s
    cases hu.symm.trans hexec
    obtain ⟨hconfig, htag, htable⟩ := hkept hpower hresetn
    exact ⟨hconfig, htag, fun _ hnone =>
      ⟨congrArg Table.cells (htable hnone), fun _ => congrArg Table.digest (htable hnone)⟩⟩

theorem watchLaw_reset {s : State} (h : s.watch = .reset) : s.WatchLaw := by
  refine watchLaw_ofEntries (entries := Vector.replicate 16 none) (h.trans ?_) soundTable_empty
  rfl

/-- R138: every command keeps the law of the watch table. -/
theorem exec_watchLaw {i : Instr} {s t : State} (hs : s.WatchLaw) (hexec : exec i s = .next t) :
    t.WatchLaw := by
  obtain ⟨code, params, hi⟩ | hi | hi := instr_sides i
  · obtain ⟨u, hu, hrequested⟩ := exec_requested hi s
    cases hu.symm.trans hexec
    exact requested_watchLaw hrequested hs
  · obtain ⟨u, hu, hendures⟩ := busSide_endures hi s
    cases hu.symm.trans hexec
    exact hendures.watch hs
  · obtain ⟨u, hu, -, hwatch, -⟩ := hostSide_cases hi s
    cases hu.symm.trans hexec
    exact hwatch.elim (fun h => watchLaw_of_eq h hs) watchLaw_reset

/-- Settles O57: an idle step leaves the table alone, and every command keeps its law. -/
theorem watchLawKept : Obligations.WatchLawKept := by
  intro s t hs hstep
  cases hpending : s.pending with
  | nil =>
    cases (step_nil hpending).symm.trans hstep
    exact hs.watch
  | cons c rest =>
    exact exec_watchLaw (s := { s with pending := rest }) hs.watch
      ((step_cons hpending).symm.trans hstep)

end Sys2Proof.Machine
end

section
/-! PROOF. The slots of a member: an accepted frame of another member (R63 to R65), the own frame heard back
(R77, R91), each as one record of what it changes, on the station as it stands at the boundary; and that
observer and sender end with equal tables. -/

namespace Sys2Proof.Machine

-- One theorem after another: each proof checked beside another takes a thread with memory of its own.
set_option Elab.async false

/-! ### Judgements at the boundary

A judgement reads the slot and round number and no time, so it may be made on the station as it stands and
the Bus Interface and the line of the boundary put in afterwards. -/

/-- The station with another Bus Interface, whose slot and round number stay, and another line. -/
def State.withLine (s : State) (b : Bus) (r : Rxd) : State :=
  { s with bus := { b with slot := s.bus.slot, round := s.bus.round }, rxd := r }

theorem withLine_boundary (s : State) : s.withLine s.boundaryBus s.rxdAtSlotEnd =
    { s with bus := s.boundaryBus, rxd := s.rxdAtSlotEnd } := rfl

section
variable (s : State) (b : Bus) (r : Rxd)

theorem withLine_setView (v : StationSet) :
    (s.withLine b r).setView v = (s.setView v).withLine b r := by
  by_cases h : v = s.agreement.view
  · exact (if_pos h).trans (congrArg (State.withLine · b r) (if_pos h)).symm
  · have hchanged : s.setView v = _ := if_neg h
    rw [hchanged]
    exact if_neg h

end

/-- R28: a station that the judgement of its slot took out of the schedule. -/
theorem exec_slotEnd_out {s t : State} {v : Verdict} (hend : s.SlotEndsWith v)
    (hl : s.controller.state ≠ .listen)
    (hjudge : State.judgeSlot (s.withLine s.boundaryBus s.rxdAtSlotEnd) v = t)
    (hout : t.bus.sync = false) :
    ∃ slot round, exec .slotEnd s = .next { t with
        bus := { t.bus with slot := slot, round := round } } ∧
      ((slot = t.bus.slot ∧ round = t.bus.round) ∨ (slot = t.nextSlot ∧ round = t.nextRound)) := by
  obtain ⟨slot, round, hnumbers, hcases⟩ := numbersOnLeaving_eq t
  rw [withLine_boundary, ← atBoundary_eq hend hl] at hjudge
  exact ⟨slot, round, hnumbers ▸ exec_slotEnd_leaves hend hjudge hout, hcases⟩

/-! ### The contributions of a frame -/

/-- The same with other posts. -/
def State.carrying (s : State) (b : Bus) (r : Rxd) (q : PostQueue) : State :=
  { s with bus := { b with slot := s.bus.slot, round := s.bus.round }, rxd := r, posts := q }

section
variable (s : State) (b : Bus) (r : Rxd) (q : PostQueue)

theorem carrying_retestWatch (i : Fin 16) (w : Watch) :
    (s.carrying b r q).retestWatch i w = (s.retestWatch i w).carrying b r q := by
  by_cases h : s.testWatch w = w.holds
  · exact (if_pos h).trans (congrArg (State.carrying · b r q) (if_pos h)).symm
  · have hchanged : s.retestWatch i w = _ := if_neg h
    rw [hchanged]
    exact if_neg h

theorem carrying_evaluateEntry (cell : Fin 32) (kind : ContributionKind) (origin : Nat)
    (i : Fin 16) : State.evaluateEntry cell kind origin (s.carrying b r q) i =
      (State.evaluateEntry cell kind origin s i).carrying b r q := by
  unfold State.evaluateEntry
  show (match s.watch.entries[i] with | none => _ | some w => _) = _
  cases s.watch.entries[i] with
  | none => rfl
  | some w =>
    dsimp only
    split
    · rfl
    · split
      · rfl
      · exact carrying_retestWatch s b r q i w

theorem carrying_evaluateWatches (cell : Fin 32) (kind : ContributionKind) (origin : Nat) :
    (s.carrying b r q).evaluateWatches cell kind origin =
      (s.evaluateWatches cell kind origin).carrying b r q := by
  unfold State.evaluateWatches
  split <;> rename_i h
  · rw [if_pos (by exact h)]
    exact List.foldl_hom (State.carrying · b r q) fun t i =>
      carrying_evaluateEntry t b r q cell kind origin i
  · rw [if_neg (by exact h)]

theorem carrying_applyContribution (origin : Nat) (c : Contribution) :
    State.applyContribution origin (s.carrying b r q) c =
      (State.applyContribution origin s c).carrying b r q :=
  congrArg (State.advance · origin c) (carrying_evaluateWatches (s.setCell c.cell _) b r q _ _ _)

/-- R63: a list of contributions reaches neither the line nor the posts, and reads neither. -/
theorem carrying_applied (origin : Nat) (list : List Contribution) :
    list.foldl (State.applyContribution origin) (s.carrying b r q) =
      (list.foldl (State.applyContribution origin) s).carrying b r q :=
  List.foldl_hom (State.carrying · b r q) fun t c => carrying_applyContribution t b r q origin c

end

/-- R63: the station with the contributions of a frame applied. -/
def State.contributedBy (s : State) (f : TallyFrame) : State :=
  f.contributions.foldl (State.applyContribution f.sender) s

theorem foldl_applyContribution_eq (s : State) (origin : Nat) (list : List Contribution) :
    list.foldl (State.applyContribution origin) s = { s with
      cells := contributed s s.cells list
      agreement := { s.agreement with digest := digested s.agreement.digest origin list }
      watch := (list.foldl (State.applyContribution origin) s).watch
      events := (list.foldl (State.applyContribution origin) s).events } := by
  obtain ⟨w, e, h⟩ := foldl_applyContribution origin list s
  rw [h]

theorem contributedBy_eq (s : State) (f : TallyFrame) : s.contributedBy f = { s with
    cells := contributed s s.cells f.contributions
    agreement := { s.agreement with
      digest := digested s.agreement.digest f.sender f.contributions }
    watch := (s.contributedBy f).watch, events := (s.contributedBy f).events } :=
  foldl_applyContribution_eq s f.sender f.contributions

theorem withLine_contributedBy (s : State) (b : Bus) (r : Rxd) (f : TallyFrame) :
    (s.withLine b r).contributedBy f = (s.contributedBy f).withLine b r := by
  have hposts : (s.contributedBy f).posts = s.posts := by rw [contributedBy_eq]
  refine (carrying_applied s b r s.posts f.sender f.contributions).trans ?_
  rw [← hposts]
  rfl

/-! ### ADMIT and FAREWELL -/

/-- R124: the service that may go on when a station becomes a member. -/
theorem serviceAfterAdding_eq (s : State) (n : Nat) : s.serviceAfterAdding n = { s with
    transfer := { s.transfer with serving := s.transfer.serving.filter fun sv =>
      !(decide (n < s.stationNumber) || decide (sv.joiner = n)) } } := by
  have hkeep : ∀ serving, serving = s.transfer.serving →
      s = { s with transfer := { s.transfer with serving := serving } } := by
    rintro _ rfl
    rfl
  unfold State.serviceAfterAdding
  split
  · next sv hsv =>
    rw [hsv, Option.filter_some, ← Bool.decide_or]
    by_cases h : n < s.stationNumber ∨ sv.joiner = n
    · simp only [h, decide_true, Bool.not_true]
      rfl
    · simp only [h, decide_false, Bool.not_false, if_true, if_false]
      exact hkeep _ hsv.symm
  · next hnone => exact hkeep _ (by rw [hnone]; rfl)

/-- R64: with the mark ADMIT the joiner is a member, whatever it was before. -/
theorem admitJoiner_eq (s : State) (joiner : Nat) : s.admitJoiner joiner = { s with
    agreement := { s.agreement with view := stationAdd s.agreement.view joiner }
    host := (s.setView (stationAdd s.agreement.view joiner)).host
    transfer := s.transferAfterAdmit joiner
    events := if stationIn s.agreement.view joiner then s.events
      else arrive s.events
        ⟨.peerJoined, s.bus.round, byteOf s.bus.slot, byteOf joiner, 0, 0, 0, 0, 0⟩ } := by
  unfold State.admitJoiner State.transferAfterAdmit
  split
  · next hin =>
    have hserving : s.transfer.serving.filter (fun sv => stationIn s.agreement.view joiner ||
        !(decide (joiner < s.stationNumber) || decide (sv.joiner = joiner))) =
        s.transfer.serving := by
      cases s.transfer.serving <;> simp [hin]
    rw [hserving, stationAdd_of_in hin, setView_same]
    rfl
  · next hout =>
    rw [serviceAfterAdding_eq, setView_eq]
    simp only [Bool.not_eq_true] at hout
    simp only [hout, Bool.false_or]
    rfl

theorem admits_iff {f : TallyFrame} {x : TransferSection} (hx : f.transfer = some x) :
    f.admits = true ↔ x.first = 28 := by
  simp [TallyFrame.admits, hx]

theorem actOnAdmit_none {f : TallyFrame} (h : ∀ x ∈ f.transfer, x.first ≠ 28) (s : State) :
    s.actOnAdmit f = s := by
  unfold State.actOnAdmit
  split
  · next x hx => rw [if_neg (mt (admits_iff hx).mp (h x hx))]
  · rfl

theorem actOnAdmit_some {f : TallyFrame} {x : TransferSection} (hx : f.transfer = some x)
    (h : x.first = 28) (s : State) : s.actOnAdmit f = s.admitJoiner x.joiner := by
  unfold State.actOnAdmit
  simp only [hx, (admits_iff hx).mpr h, if_true]

/-- R52, R64: a frame either admits a joiner or has no mark ADMIT. -/
theorem admit_cases (f : TallyFrame) :
    (∀ x ∈ f.transfer, x.first ≠ 28) ∨ ∃ x, f.transfer = some x ∧ x.first = 28 := by
  cases hx : f.transfer with
  | none => exact .inl fun _ h => absurd h (Option.not_mem_none _)
  | some x =>
    by_cases h : x.first = 28
    · exact .inr ⟨x, rfl, h⟩
    · exact .inl fun y hy => by cases hy; exact h

/-- R64: an ADMIT reaches the view, the latches, the donor side and the event queue only. -/
theorem actOnAdmit_eq (s : State) (f : TallyFrame) :
    ∃ view host transfer events, s.actOnAdmit f = { s with
      agreement := { s.agreement with view := view }
      host := host, transfer := transfer, events := events } := by
  obtain h | ⟨x, hx, h⟩ := admit_cases f
  · exact ⟨_, _, _, _, actOnAdmit_none h s⟩
  · exact ⟨_, _, _, _, (actOnAdmit_some hx h s).trans (admitJoiner_eq s x.joiner)⟩

theorem actOnAdmit_view (s : State) (f : TallyFrame) (n : Nat) :
    stationIn (s.actOnAdmit f).agreement.view n = (stationIn s.agreement.view n ||
      (match f.transfer with
        | some x => decide (x.first = 28 ∧ x.joiner = n ∧ n < 16)
        | none => false)) := by
  cases hx : f.transfer with
  | none => simp [State.actOnAdmit, hx]
  | some x =>
    by_cases h : x.first = 28
    · rw [actOnAdmit_some hx h, admitJoiner_eq]
      simp [stationIn_add, h, eq_comm]
    · rw [actOnAdmit_none fun y hy => by cases hx.symm.trans hy; exact h]
      simp [h]

theorem actOnFarewell_false {f : TallyFrame} (h : f.farewell = false) (s : State) :
    s.actOnFarewell f = s := by
  unfold State.actOnFarewell
  rw [h]
  rfl

theorem actOnFarewell_true {f : TallyFrame} (h : f.farewell = true) (s : State) :
    s.actOnFarewell f = { s with
      agreement := { s.agreement with view := stationRemove s.agreement.view s.bus.slot }
      host := (s.setView (stationRemove s.agreement.view s.bus.slot)).host
      events := arrive s.events
        ⟨.peerLeft, s.bus.round, byteOf s.bus.slot, byteOf s.bus.slot, 0, 0, 0, 0, 0⟩ } := by
  unfold State.actOnFarewell
  rw [h, if_pos rfl, setView_eq]
  rfl

/-- R65: a FAREWELL reaches the view, the latches and the event queue only. -/
theorem actOnFarewell_eq (s : State) (f : TallyFrame) :
    ∃ view host events, s.actOnFarewell f = { s with
      agreement := { s.agreement with view := view }, host := host, events := events } := by
  cases h : f.farewell with
  | false => exact ⟨_, _, _, actOnFarewell_false h s⟩
  | true => exact ⟨_, _, _, actOnFarewell_true h s⟩

theorem withLine_actOnAdmit (s : State) (b : Bus) (r : Rxd) (f : TallyFrame) :
    (s.withLine b r).actOnAdmit f = (s.actOnAdmit f).withLine b r := by
  obtain h | ⟨x, hx, h⟩ := admit_cases f
  · rw [actOnAdmit_none h, actOnAdmit_none h]
  · rw [actOnAdmit_some hx h, actOnAdmit_some hx h, admitJoiner_eq, admitJoiner_eq]
    rw [withLine_setView]
    rfl

theorem withLine_actOnFarewell (s : State) (b : Bus) (r : Rxd) (f : TallyFrame) :
    (s.withLine b r).actOnFarewell f = (s.actOnFarewell f).withLine b r := by
  cases h : f.farewell with
  | false => rw [actOnFarewell_false h, actOnFarewell_false h]
  | true =>
    rw [actOnFarewell_true h, actOnFarewell_true h, withLine_setView]
    rfl

/-! ### An accepted frame -/

/-- R63 to R65: the station with an agreeing frame accepted, the timer not yet corrected. -/
def State.acceptedBy (s : State) (f : TallyFrame) : State :=
  ((s.contributedBy f).countAgree.actOnAdmit f).actOnFarewell f

theorem acceptFrame_eq (s : State) (f : TallyFrame) :
    s.acceptFrame f = (s.acceptedBy f).correctTimer := rfl

theorem withLine_acceptedBy (s : State) (b : Bus) (r : Rxd) (f : TallyFrame) :
    (s.withLine b r).acceptedBy f = (s.acceptedBy f).withLine b r := by
  have happlied : ((s.withLine b r).contributedBy f).countAgree =
      (s.contributedBy f).countAgree.withLine b r :=
    congrArg State.countAgree (withLine_contributedBy s b r f)
  rw [State.acceptedBy, happlied, withLine_actOnAdmit, withLine_actOnFarewell]
  rfl

/-- An accepted frame reaches the cells, the picture, the watches, the donor side, the events and the
latches only. -/
theorem acceptedBy_eq (s : State) (f : TallyFrame) :
    ∃ view host transfer events, s.acceptedBy f = { s with
      cells := contributed s s.cells f.contributions
      agreement := { s.agreement with
        view := view
        digest := digested s.agreement.digest f.sender f.contributions
        agree := s.agreement.agree + 1 }
      watch := (s.contributedBy f).watch, host := host, transfer := transfer, events := events } := by
  obtain ⟨_, _, transfer, _, hadmit⟩ := actOnAdmit_eq (s.contributedBy f).countAgree f
  obtain ⟨view, host, events, hfarewell⟩ :=
    actOnFarewell_eq ((s.contributedBy f).countAgree.actOnAdmit f) f
  refine ⟨view, host, transfer, events, hfarewell.trans ?_⟩
  rw [hadmit, contributedBy_eq]
  rfl

/-- R27, R32, R62: the end of the slot of another member with an agreeing frame. -/
theorem exec_slotEnd_accepted {s : State} {f : TallyFrame} (hm : s.controller.state = .member)
    (hend : s.SlotEndsWith (.intact (.tally f) true)) (hown : s.bus.slot ≠ s.stationNumber)
    (hin : stationIn s.agreement.view s.bus.slot = true) (hagrees : s.agreesWith f = true) :
    exec .slotEnd s = .next (State.signalOwnSlot { s.acceptedBy f with
      bus := (s.inNextSlot s.correction).bus
      frameCheck := ⟨[], [], s.frameCheck.tag, none⟩
      rxd := s.rxdAtSlotEnd }) := by
  obtain ⟨view, host, transfer, events, haccepted⟩ := acceptedBy_eq s f
  have hjudge : State.judgeSlot (s.withLine s.boundaryBus s.rxdAtSlotEnd)
      (.intact (.tally f) true) =
        ((s.acceptedBy f).withLine s.boundaryBus s.rxdAtSlotEnd).correctTimer := by
    rw [← withLine_acceptedBy, ← acceptFrame_eq]
    have hstate : (s.withLine s.boundaryBus s.rxdAtSlotEnd).controller.state = .member := hm
    simp only [State.judgeSlot, hstate]
    exact (judgeMember_inside (s := s.withLine s.boundaryBus s.rxdAtSlotEnd) hown hin _).trans
      (if_pos hagrees)
  rw [haccepted] at hjudge ⊢
  exact exec_slotEnd_corrected hend (by rw [hm]; decide) hjudge

section
variable (s : State) (f : TallyFrame)

@[simp] theorem contributedBy_view :
    (s.contributedBy f).agreement.view = s.agreement.view := by rw [contributedBy_eq]

@[simp] theorem contributedBy_host : (s.contributedBy f).host = s.host := by rw [contributedBy_eq]

@[simp] theorem contributedBy_bus : (s.contributedBy f).bus = s.bus := by rw [contributedBy_eq]

@[simp] theorem contributedBy_transfer : (s.contributedBy f).transfer = s.transfer := by
  rw [contributedBy_eq]

@[simp] theorem contributedBy_stationNumber :
    (s.contributedBy f).stationNumber = s.stationNumber := by rw [contributedBy_eq]; rfl

end

theorem transferAfterAdmit_congr {s t : State} (htransfer : t.transfer = s.transfer)
    (hview : t.agreement.view = s.agreement.view) (hnumber : t.stationNumber = s.stationNumber)
    (joiner : Nat) : t.transferAfterAdmit joiner = s.transferAfterAdmit joiner := by
  unfold State.transferAfterAdmit
  rw [htransfer, hview, hnumber]

/-- R64: without FAREWELL, the marks of an accepted frame are those of its transfer section. -/
theorem acceptedBy_staying {f : TallyFrame} (h : f.farewell = false) (s : State) :
    s.acceptedBy f = (s.contributedBy f).countAgree.actOnAdmit f :=
  actOnFarewell_false h _

/-- R65: with FAREWELL and no transfer section. -/
theorem acceptedBy_leaving {f : TallyFrame} (hx : f.transfer = none)
    (s : State) : s.acceptedBy f = (s.contributedBy f).countAgree.actOnFarewell f := by
  rw [State.acceptedBy, actOnAdmit_none (by simp [hx])]

theorem setView_host_of_eq {s t : State} (hview : t.agreement.view = s.agreement.view)
    (hhost : t.host = s.host) (v : StationSet) : (t.setView v).host = (s.setView v).host := by
  unfold State.setView
  rw [hview]
  split
  · exact hhost
  · simp only [State.latchViewChanged, State.statusOutstanding, hhost]

theorem stationAdd_ne {view : StationSet} {n : Nat} (hn : n < 16) (h : stationIn view n = false) :
    stationAdd view n ≠ view := by
  intro heq
  have hin := stationIn_add view n n
  simp [heq, h, hn] at hin

/-- What the ADMIT of a joiner does to donor side, latches and events of a station that has just applied
the frame's contributions. -/
theorem admitJoiner_afterFrame {s t : State} (htransfer : t.transfer = s.transfer)
    (hview : t.agreement.view = s.agreement.view) (hhost : t.host = s.host) (hbus : t.bus = s.bus)
    (hnumber : t.stationNumber = s.stationNumber) {joiner : Nat} (hjoiner : joiner < 16) :
    (t.admitJoiner joiner).transfer = s.transferAfterAdmit joiner ∧
      (stationIn s.agreement.view joiner = true →
        (t.admitJoiner joiner).host = s.host ∧ (t.admitJoiner joiner).events = t.events) ∧
      (stationIn s.agreement.view joiner = false →
        (t.admitJoiner joiner).host.latches = { s.host.latches with viewChanged := true } ∧
        (t.admitJoiner joiner).events = arrive t.events
          ⟨.peerJoined, s.bus.round, byteOf s.bus.slot, byteOf joiner, 0, 0, 0, 0, 0⟩) := by
  rw [admitJoiner_eq]
  dsimp only
  rw [hview, setView_host_of_eq hview hhost, hbus]
  refine ⟨transferAfterAdmit_congr htransfer hview hnumber joiner, fun hin => ?_, fun hout => ?_⟩
  · rw [stationAdd_of_in hin, setView_same, if_pos hin]
    exact ⟨rfl, rfl⟩
  · rw [setView_latches s _ (stationAdd_ne hjoiner hout), hout]
    exact ⟨rfl, rfl⟩

/-- Settles O34: the agreeing frame's record, and what its marks do to view, donor side and events. -/
theorem agreeingFrameIsAccepted : Obligations.AgreeingFrameIsAccepted := by
  intro s f offset hm hend hstart hown hin hround hview hdigest
  have hagrees := (agreesWith_iff s f).mpr ⟨hround, hview, hdigest⟩
  have hcorrection : s.correction = offset - 512 := by simp only [State.correction, hstart]
  obtain ⟨view, host, transfer, events, haccepted⟩ := acceptedBy_eq s f
  refine ⟨_, exec_slotEnd_accepted hm hend hown hin hagrees, ?bus, rfl, ?cells, ?watch, ?digest,
    ?agree, ?dissent, ?seen, ?joined, ?left, ?leaving, ?unmarked, ?admitted, ?config, ?posts,
    ?controller, ?resetn, rfl, ?phase⟩
  case bus => rw [hcorrection]; rfl
  case watch =>
    show (s.acceptedBy f).watch = (s.contributedBy f).watch
    rw [haccepted]
  case phase =>
    have hlasting := (acceptFrame_endures s f).lasting
    rw [acceptFrame_eq, correctTimer_eq] at hlasting
    exact congrArg Lasting.phase hlasting
  case joined =>
    intro hf n
    show stationIn (s.acceptedBy f).agreement.view n = _
    rw [acceptedBy_staying hf, actOnAdmit_view, State.countAgree, contributedBy_view] <;> rfl
  case left =>
    intro hf hx
    have hcounted : (s.contributedBy f).countAgree.agreement.view = s.agreement.view :=
      contributedBy_view s f
    dsimp only
    rw [acceptedBy_leaving hx, actOnFarewell_true hf]
    dsimp only
    rw [setView_host_of_eq (s := s) (t := (s.contributedBy f).countAgree) (contributedBy_view s f)
      (contributedBy_host s f), State.countAgree_bus, contributedBy_bus, hcounted, setView_latches]
    · exact ⟨rfl, rfl⟩
    · exact stationRemove_ne hin
  case leaving =>
    intro hf hx
    dsimp only
    rw [acceptedBy_leaving hx, actOnFarewell_true hf]
    dsimp only
    rw [State.countAgree_bus, contributedBy_bus]
    exact ⟨contributedBy_transfer s f, rfl⟩
  case unmarked =>
    intro hf hx
    dsimp only
    rw [acceptedBy_staying hf, actOnAdmit_none hx]
    exact ⟨contributedBy_transfer s f, contributedBy_host s f, rfl⟩
  case admitted =>
    intro x hx hf h28 hjoiner
    dsimp only
    rw [acceptedBy_staying hf, actOnAdmit_some hx h28]
    exact admitJoiner_afterFrame (t := (s.contributedBy f).countAgree) (contributedBy_transfer s f)
      (contributedBy_view s f) (contributedBy_host s f) (contributedBy_bus s f) (contributedBy_stationNumber s f) hjoiner
  all_goals
    dsimp only
    rw [haccepted]

/-! ### The own frame heard back -/

/-- The station with other posts. -/
def State.withPosts (s : State) (posts : PostQueue) : State := { s with posts := posts }

/-- R77: the station with the contributions of its own frame applied and their results stored. -/
def State.ownContributed (s : State) (f : TallyFrame) : State :=
  f.contributions.foldl (State.applyOwn f.sender) s

theorem withPosts_applied (s : State) (q : PostQueue) (origin : Nat) (list : List Contribution) :
    list.foldl (State.applyContribution origin) (s.withPosts q) =
      (list.foldl (State.applyContribution origin) s).withPosts q := by
  have happlied := foldl_applyContribution_eq s origin list
  refine (carrying_applied s s.bus s.rxd q origin list).trans ?_
  rw [happlied]
  rfl

theorem applyContribution_posts (s : State) (origin : Nat) (c : Contribution) :
    (State.applyContribution origin s c).posts = s.posts := by
  rw [State.applyContribution, State.advance, applyToCell_eq]

/-- R91: a change of posts that stores results only. -/
def StoresResults (g : Post → Post) : Prop := ∀ p, (g p).tag = p.tag ∧ (g p).queued = p.queued

theorem withResult_storesResults (tag : Byte) (r : PostResult) :
    StoresResults (Post.withResult tag r) := by
  intro p
  unfold Post.withResult
  split
  · next stamp old hstatus =>
    split
    · exact ⟨rfl, by simp [Post.queued, hstatus]⟩
    · exact ⟨rfl, rfl⟩
  · exact ⟨rfl, rfl⟩

/-- R77, R91: the own contributions reach the cells, the digest, the watches and the events as another
member's do, and store results with the posts. -/
theorem foldl_applyOwn (origin : Nat) (list : List Contribution) (s : State) :
    ∃ g, StoresResults g ∧ list.foldl (State.applyOwn origin) s =
      (list.foldl (State.applyContribution origin) s).withPosts
        ⟨s.posts.posts.map g, s.posts.nextTag⟩ := by
  induction list generalizing s with
  | nil => exact ⟨id, fun p => ⟨rfl, rfl⟩, by rw [List.map_id]; rfl⟩
  | cons c list ih =>
    obtain ⟨g, hg, hrest⟩ := ih (State.applyOwn origin s c)
    have hstep := withResult_storesResults c.tag (s.resultOf c)
    have hone := applyContribution_posts s origin c
    refine ⟨g ∘ Post.withResult c.tag (s.resultOf c), fun p => ⟨?_, ?_⟩, ?_⟩
    · exact (hg _).1.trans (hstep p).1
    · exact (hg _).2.trans (hstep p).2
    · rw [List.foldl_cons, hrest, List.foldl_cons]
      have hown : State.applyOwn origin s c = (State.applyContribution origin s c).withPosts
          ⟨s.posts.posts.map (Post.withResult c.tag (s.resultOf c)), s.posts.nextTag⟩ := by
        rw [← hone]
        rfl
      rw [hown, withPosts_applied]
      simp only [State.withPosts, List.map_map]

theorem withResult_same {tag : Byte} {result : PostResult} {p : Post} (htag : p.tag = tag)
    {stamp : Round} {r : Option PostResult}
    (h : (Post.withResult tag result p).status = .sent stamp r) : r = some result := by
  unfold Post.withResult at h
  split at h
  · rw [if_pos htag] at h
    cases h
    rfl
  · next hqueued => rw [hqueued] at h; cases h

theorem withResult_other {tag : Byte} {result : PostResult} {p : Post} (htag : p.tag ≠ tag) :
    Post.withResult tag result p = p := by
  unfold Post.withResult
  split
  · exact if_neg htag
  · rfl

theorem withLine_applyOwn (s : State) (b : Bus) (r : Rxd) (origin : Nat) (c : Contribution) :
    State.applyOwn origin (s.withLine b r) c = (State.applyOwn origin s c).withLine b r := by
  have hposts := applyContribution_posts s origin c
  refine (congrArg (State.storeResult · c.tag (s.resultOf c))
    (carrying_applyContribution s b r s.posts origin c)).trans ?_
  rw [← hposts]
  rfl

theorem withLine_ownContributed (s : State) (b : Bus) (r : Rxd) (f : TallyFrame) :
    (s.withLine b r).ownContributed f = (s.ownContributed f).withLine b r :=
  List.foldl_hom (State.withLine · b r) fun t c => withLine_applyOwn t b r f.sender c

/-- R91: whatever the later contributions of the frame store, a SENT post keeps the result of the last
contribution under its tag. -/
theorem ownContributed_result {s : State} {origin : Nat} {before after : List Contribution}
    {c : Contribution} (hafter : ∀ d ∈ after, d.tag ≠ c.tag) {p : Post} {stamp : Round}
    {r : Option PostResult}
    (hp : p ∈ ((before ++ c :: after).foldl (State.applyOwn origin) s).posts.posts)
    (htag : p.tag = c.tag) (hsent : p.status = .sent stamp r) :
    r = some (State.resultOf (before.foldl (State.applyOwn origin) s) c) := by
  rw [List.foldl_append, List.foldl_cons] at hp
  generalize before.foldl (State.applyOwn origin) s = u at hp ⊢
  have hstored : ∀ q ∈ (State.applyOwn origin u c).posts.posts, q.tag = c.tag →
      ∀ stamp r, q.status = .sent stamp r → r = some (u.resultOf c) := by
    intro q hq hqtag stamp r hqsent
    obtain ⟨old, -, rfl⟩ := List.mem_map.mp hq
    exact withResult_same ((withResult_storesResults c.tag _ old).1.symm.trans hqtag) hqsent
  revert hp
  generalize State.applyOwn origin u c = v at hstored ⊢
  induction after generalizing v with
  | nil => exact fun hp => hstored p hp htag stamp r hsent
  | cons d rest ih =>
    intro hp
    refine ih (fun e he => hafter e (List.mem_cons_of_mem d he)) _ (fun q hq hqtag => ?_) hp
    obtain ⟨old, hold, rfl⟩ := List.mem_map.mp hq
    have hother : old.tag ≠ d.tag := by
      rw [← (withResult_storesResults d.tag (v.resultOf d) old).1, hqtag]
      exact (hafter d List.mem_cons_self).symm
    rw [withResult_other hother] at hqtag ⊢
    exact hstored old (applyContribution_posts v origin d ▸ hold) hqtag

/-- The station with its own frame acted on, before a FAREWELL moves it. -/
def State.ownActedOn (s : State) (f : TallyFrame) : State := (s.ownContributed f).actOnAdmit f

theorem ownActedOn_eq (s : State) (f : TallyFrame) :
    ∃ g view host transfer events, StoresResults g ∧ s.ownActedOn f = { s with
      cells := contributed s s.cells f.contributions
      posts := ⟨s.posts.posts.map g, s.posts.nextTag⟩
      agreement := { s.agreement with
        view := view, digest := digested s.agreement.digest f.sender f.contributions }
      watch := (s.contributedBy f).watch, host := host, transfer := transfer, events := events } := by
  obtain ⟨g, hg, hown⟩ := foldl_applyOwn f.sender f.contributions s
  obtain ⟨view, host, transfer, events, hadmit⟩ := actOnAdmit_eq (s.ownContributed f) f
  have hown : s.ownContributed f =
      (s.contributedBy f).withPosts ⟨s.posts.posts.map g, s.posts.nextTag⟩ := hown
  refine ⟨g, view, host, transfer, events, hg, hadmit.trans ?_⟩
  rw [hown, contributedBy_eq]
  rfl

theorem ownFrameIntact_eq (s : State) (f : TallyFrame) : s.ownFrameIntact f =
    if f.farewell then (((s.ownActedOn f).setView 0).clearCounts).enterStandby
    else s.ownActedOn f := rfl

theorem withLine_ownActedOn (s : State) (b : Bus) (r : Rxd) (f : TallyFrame) :
    (s.withLine b r).ownActedOn f = (s.ownActedOn f).withLine b r := by
  unfold State.ownActedOn
  rw [withLine_ownContributed, withLine_actOnAdmit]

theorem loopbackIntact_of {s : State} {g : Frame} {m : Bool} {f : Frame}
    (hloop : s.bus.loopback = s.frameCheck.transmit) (hcarried : s.bus.carried = false)
    (hread : readFrame s.frameCheck.transmit = some f) :
    s.loopbackIntact (.intact g m) = some f :=
  (if_pos ⟨hloop, hcarried⟩).trans hread

theorem judgeSlot_own {s : State} (hm : s.controller.state = .member)
    (hslot : s.bus.slot = s.stationNumber) (v : Verdict) : s.judgeSlot v = s.ownSlotEnd v := by
  simp only [State.judgeSlot, hm, State.judgeMember, hslot, if_true]

theorem ownSlotEnd_intact {s : State} {v : Verdict} {f : TallyFrame}
    (htransmit : s.frameCheck.transmit ≠ []) (h : s.loopbackIntact v = some (.tally f)) :
    s.ownSlotEnd v = s.ownFrameIntact f := by
  rw [State.ownSlotEnd, if_neg htransmit, h]

theorem ownSlotEnd_failed {s : State} {v : Verdict} (htransmit : s.frameCheck.transmit ≠ [])
    (h : s.loopbackIntact v = none) : s.ownSlotEnd v = s.exclude .loopback := by
  rw [State.ownSlotEnd, if_neg htransmit, h]

/-- R77: the own slot of a member whose frame was heard back intact, judged at the boundary. -/
theorem judgeSlot_ownFrame {s : State} {f : TallyFrame} {v : Frame} {m : Bool}
    (hm : s.controller.state = .member) (hslot : s.bus.slot = s.stationNumber)
    (htransmit : s.frameCheck.transmit ≠ []) (hloop : s.bus.loopback = s.frameCheck.transmit)
    (hcarried : s.bus.carried = false)
    (hread : readFrame s.frameCheck.transmit = some (.tally f)) :
    State.judgeSlot (s.withLine s.boundaryBus s.rxdAtSlotEnd) (.intact v m) =
      if f.farewell then
        (((s.ownActedOn f).withLine s.boundaryBus s.rxdAtSlotEnd).setView 0).clearCounts.enterStandby
      else (s.ownActedOn f).withLine s.boundaryBus s.rxdAtSlotEnd := by
  have hintact : (s.withLine s.boundaryBus s.rxdAtSlotEnd).loopbackIntact (.intact v m) =
      some (.tally f) :=
    loopbackIntact_of (by exact hloop) (by exact hcarried) hread
  rw [← withLine_ownActedOn, ← ownFrameIntact_eq, ← ownSlotEnd_intact (by exact htransmit) hintact]
  exact judgeSlot_own (s := s.withLine s.boundaryBus s.rxdAtSlotEnd) hm hslot _

theorem resultOf_after (s : State) (origin : Nat) (before : List Contribution) (c : Contribution) :
    State.resultOf (before.foldl (State.applyOwn origin) s) c =
      { outcome := ((contributed s s.cells before)[c.cell].contribute (s.cellMode c.cell)
          (s.cellPolicy c.cell) c.kind c.operand).2
        value := ((contributed s s.cells before)[c.cell].contribute (s.cellMode c.cell)
          (s.cellPolicy c.cell) c.kind c.operand).1.value
        flags := ((contributed s s.cells before)[c.cell].contribute (s.cellMode c.cell)
          (s.cellPolicy c.cell) c.kind c.operand).1.flags } := by
  obtain ⟨g, -, h⟩ := foldl_applyOwn origin before s
  rw [h, foldl_applyContribution_eq]
  rfl

section
variable {s : State} {f : TallyFrame} {v : Frame} {m : Bool}

/-- R77: the end of the own slot of a member that stays. -/
theorem exec_ownFrame_stays (hm : s.controller.state = .member)
    (hend : s.SlotEndsWith (.intact v m)) (hslot : s.bus.slot = s.stationNumber)
    (htransmit : s.frameCheck.transmit ≠ [])
    (hloop : s.bus.loopback = s.frameCheck.transmit) (hcarried : s.bus.carried = false)
    (hread : readFrame s.frameCheck.transmit = some (.tally f)) (hf : f.farewell = false) :
    exec .slotEnd s = .next (State.signalOwnSlot { s.ownActedOn f with
      bus := (s.inNextSlot 0).bus
      frameCheck := ⟨[], [], s.frameCheck.tag, none⟩
      rxd := s.rxdAtSlotEnd }) := by
  have hjudge := judgeSlot_ownFrame (v := v) (m := m) hm hslot htransmit hloop hcarried hread
  rw [hf, if_neg Bool.false_ne_true] at hjudge
  obtain ⟨g, view, host, transfer, events, -, hacted⟩ := ownActedOn_eq s f
  rw [hacted] at hjudge ⊢
  exact exec_slotEnd_uncorrected hend (by rw [hm]; decide) hjudge

/-- R58: emptying the view sets VIEW_CHANGED when the view held a station. -/
theorem setView_zero_latches (s : State) : (s.setView 0).host.latches =
    { s.host.latches with
      viewChanged := s.host.latches.viewChanged || decide (s.agreement.view ≠ 0) } := by
  by_cases h : s.agreement.view = 0
  · rw [← h, setView_same, h]
    simp
  · rw [setView_latches s 0 (Ne.symm h), decide_eq_true h, Bool.or_true]

/-- R113: the end of the own slot of a member whose FAREWELL was heard back. -/
theorem exec_ownFrame_leaves (hm : s.controller.state = .member)
    (hend : s.SlotEndsWith (.intact v m)) (hslot : s.bus.slot = s.stationNumber)
    (htransmit : s.frameCheck.transmit ≠ []) (hloop : s.bus.loopback = s.frameCheck.transmit)
    (hcarried : s.bus.carried = false)
    (hread : readFrame s.frameCheck.transmit = some (.tally f)) (hf : f.farewell = true) :
    ∃ slot round, ((slot = s.bus.slot ∧ round = s.bus.round) ∨
        (slot = s.nextSlot ∧ round = s.nextRound)) ∧
      exec .slotEnd s = .next { s.ownActedOn f with
        bus := ⟨false, 0, slot, round, .silent, false, false, none, [], .idle⟩
        frameCheck := ⟨[], [], s.frameCheck.tag, none⟩
        agreement := { (s.ownActedOn f).agreement with view := 0, agree := 0, dissent := 0 }
        host := ((s.ownActedOn f).setView 0).host
        controller := ⟨.standby, s.controller.failures, 0, 0, 0, false, false⟩
        transfer := ⟨[], none, none⟩
        events := arrive (s.ownActedOn f).events (stateChanged s.bus.round s.bus.slot
          s.stationNumber .hostLeave .standby s.controller.failures)
        rxd := s.rxdAtSlotEnd } := by
  have hjudge := judgeSlot_ownFrame (v := v) (m := m) hm hslot htransmit hloop hcarried hread
  rw [hf, if_pos rfl, withLine_setView, setView_eq] at hjudge
  obtain ⟨g, view, host, transfer, events, -, hacted⟩ := ownActedOn_eq s f
  obtain ⟨slot, round, hexec, hnumbers⟩ :=
    exec_slotEnd_out hend (by rw [hm]; decide) hjudge rfl
  refine ⟨slot, round, ?_, hexec.trans ?_⟩
  · rw [hacted] at hnumbers
    exact hnumbers
  · rw [hacted]
    rfl

end

/-- Settles O42: the own frame acted on, and a FAREWELL of its own taking the station out. -/
theorem ownFrameIsActedOn : Obligations.OwnFrameIsActedOn := by
  intro s v m f before after c p stamp r hm hend hslot hnext htransmit hloop hcarried hread
  obtain ⟨g, view, host, transfer, events, hg, hacted⟩ := ownActedOn_eq s f
  have htags : (s.ownActedOn f).posts.posts.map Post.tag = s.posts.posts.map Post.tag := by
    rw [hacted, List.map_map]
    exact List.map_congr_left fun p _ => (hg p).1
  have hresult : f.contributions = before ++ c :: after → (∀ d ∈ after, d.tag ≠ c.tag) →
      p ∈ (s.ownActedOn f).posts.posts → p.tag = c.tag → p.status = .sent stamp r →
      r = some (State.resultOf (before.foldl (State.applyOwn f.sender) s) c) := by
    intro hlist hafter hp
    obtain ⟨_, _, _, _, h⟩ := actOnAdmit_eq (s.ownContributed f) f
    rw [State.ownActedOn, h, State.ownContributed, hlist] at hp
    exact ownContributed_result hafter hp
  rw [resultOf_after] at hresult
  obtain ⟨q, -, howned⟩ := foldl_applyOwn f.sender f.contributions s
  have howned : s.ownContributed f =
      (s.contributedBy f).withPosts ⟨s.posts.posts.map q, s.posts.nextTag⟩ := howned
  have hview : (s.ownContributed f).agreement.view = s.agreement.view := by
    rw [howned]
    exact contributedBy_view s f
  have hwatch : (s.ownActedOn f).watch = (s.contributedBy f).watch := by rw [hacted]
  cases hf : f.farewell with
  | false =>
    have hexec := exec_ownFrame_stays hm hend hslot htransmit hloop hcarried hread hf
    rw [signalOwnSlot_other (by rw [hacted]; exact hnext)] at hexec
    refine ⟨_, hexec, ?cells,
      hwatch, ?digest, ?config, ?nextTag, htags, fun _ => ⟨rfl, rfl, ?controller, ?agree, ?dissent,
      ?joined⟩, ?unmarked, ?admitted, hresult, fun h => Bool.noConfusion h⟩
    case joined =>
      intro n
      show stationIn ((s.ownContributed f).actOnAdmit f).agreement.view n = _
      rw [actOnAdmit_view, hview] <;> rfl
    case unmarked =>
      intro _ hx
      dsimp only
      rw [State.ownActedOn, actOnAdmit_none hx, howned]
      exact ⟨contributedBy_transfer s f, contributedBy_host s f, rfl⟩
    case admitted =>
      intro x hx _ h28 hjoiner
      have hadmit := admitJoiner_afterFrame (t := s.ownContributed f) (s := s)
        (by rw [howned]; exact contributedBy_transfer s f)
        (by rw [howned]; exact contributedBy_view s f) (by rw [howned]; exact contributedBy_host s f)
        (by rw [howned]; exact contributedBy_bus s f)
        (by rw [howned]; exact contributedBy_stationNumber s f) hjoiner
      obtain ⟨htransfer, -, hout⟩ := hadmit
      dsimp only
      rw [State.ownActedOn, actOnAdmit_some hx h28]
      refine ⟨htransfer, fun h => ?_⟩
      rw [(hout h).1, (hout h).2, howned]
      exact ⟨rfl, rfl⟩
    all_goals
      dsimp only
      rw [hacted]
  | true =>
    obtain ⟨slot, round, hnumbers, hexec⟩ :=
      exec_ownFrame_leaves hm hend hslot htransmit hloop hcarried hread hf
    refine ⟨_, hexec, ?table, hwatch, ?picture, ?plan, ?counter, htags,
      fun h => Bool.noConfusion h, fun h => Bool.noConfusion h, fun _ _ h => Bool.noConfusion h,
      hresult, ?left⟩
    case left =>
      intro _ hnone hx
      have hsame : s.ownActedOn f = s := by
        rw [State.ownActedOn, actOnAdmit_none (by simp [hx]), State.ownContributed, hnone]
        rfl
      dsimp only
      rw [hsame]
      exact ⟨rfl, rfl, rfl, hnumbers, rfl, setView_zero_latches s, rfl, rfl, rfl⟩
    all_goals
      dsimp only
      rw [hacted]

/-! ### Observer and sender -/

/-- R2, R10: under the same plan a list of contributions does the same to the same table. -/
theorem contributed_congr {s t : State}
    (h : ∀ i : Fin 32, s.cellMode i = t.cellMode i ∧ s.cellPolicy i = t.cellPolicy i)
    (cells : Vector Cell 32) (list : List Contribution) :
    contributed s cells list = contributed t cells list := by
  unfold contributed
  congr
  funext table c
  rw [(h c.cell).1, (h c.cell).2]

/-- R63: the table and the digest of an observer that accepts a frame. -/
theorem exec_slotEnd_observer {o : State} {f : TallyFrame} (hm : o.controller.state = .member)
    (hend : o.SlotEndsWith (.intact (.tally f) true)) (hown : o.bus.slot ≠ o.stationNumber)
    (hin : stationIn o.agreement.view o.bus.slot = true) (hagrees : o.agreesWith f = true) :
    ∃ t, exec .slotEnd o = .next t ∧ t.cells = contributed o o.cells f.contributions ∧
      t.agreement.digest = digested o.agreement.digest f.sender f.contributions := by
  obtain ⟨view, host, transfer, events, haccepted⟩ := acceptedBy_eq o f
  refine ⟨_, exec_slotEnd_accepted hm hend hown hin hagrees, ?_, ?_⟩
  · rw [← table_cells, signalOwnSlot_table, haccepted]
    rfl
  · rw [← table_digest, signalOwnSlot_table, haccepted]
    rfl

/-- R77: the table and the digest of the sender that hears its frame back. -/
theorem exec_slotEnd_sender {p : State} {f : TallyFrame} {v : Frame} {m : Bool}
    (hm : p.controller.state = .member) (hend : p.SlotEndsWith (.intact v m))
    (hslot : p.bus.slot = p.stationNumber) (htransmit : p.frameCheck.transmit ≠ [])
    (hloop : p.bus.loopback = p.frameCheck.transmit) (hcarried : p.bus.carried = false)
    (hread : readFrame p.frameCheck.transmit = some (.tally f)) :
    ∃ t, exec .slotEnd p = .next t ∧ t.cells = contributed p p.cells f.contributions ∧
      t.agreement.digest = digested p.agreement.digest f.sender f.contributions := by
  obtain ⟨g, view, host, transfer, events, -, hacted⟩ := ownActedOn_eq p f
  cases hf : f.farewell with
  | false =>
    refine ⟨_, exec_ownFrame_stays hm hend hslot htransmit hloop hcarried hread hf, ?_, ?_⟩
    · rw [← table_cells, signalOwnSlot_table, hacted]
      rfl
    · rw [← table_digest, signalOwnSlot_table, hacted]
      rfl
  | true =>
    obtain ⟨slot, round, -, hexec⟩ :=
      exec_ownFrame_leaves hm hend hslot htransmit hloop hcarried hread hf
    exact ⟨_, hexec, by rw [hacted], by rw [hacted]⟩

/-- Settles O35: observer and sender apply the same contributions to the same table and digest. -/
theorem replicasStayEqual : Obligations.ReplicasStayEqual := by
  intro o p f ho hoend hoslot hoin hround hview hdigest hp hpend hpslot htransmit hloop hcarried hread
    hcells hdigests hplan
  obtain ⟨t, ht, htcells, htdigest⟩ := exec_slotEnd_observer ho hoend hoslot hoin
    ((agreesWith_iff o f).mpr ⟨hround, hview, hdigest⟩)
  obtain ⟨u, hu, hucells, hudigest⟩ :=
    exec_slotEnd_sender hp hpend hpslot htransmit hloop hcarried hread
  refine ⟨t, u, ht, hu, ?_, ?_⟩
  · rw [htcells, hucells, hcells, contributed_congr hplan]
  · rw [htdigest, hudigest, hdigests]

end Sys2Proof.Machine
end

section
/-! PROOF. The own slot of a member: exclusion written out (R76, R78, R93, R113, R115), the evaluation that
keeps the station (R75, R90, R92), and the donor's decision (R124 to R129). -/

namespace Sys2Proof.Machine

-- One theorem after another: each proof checked beside another takes a thread with memory of its own.
set_option Elab.async false

/-! ### Exclusion -/

/-- R93, R153: the records of the doubtful posts. -/
def State.doubtfulRecords (s : State) : List EventRecord :=
  (s.posts.posts.filter fun p => !p.queued).map fun p =>
    ⟨.postDoubtful, s.bus.round, byteOf s.bus.slot, byteOf s.stationNumber, byteOf p.cell.val, p.tag,
      0, 0, 0⟩

/-- R100, R113, R115: the changes of state of an exclusion. -/
def State.exclusionRecords (s : State) (cause : ChangeCause) : List EventRecord :=
  if 8 ≤ s.controller.failures + 1 then
    [stateChanged s.bus.round s.bus.slot s.stationNumber .failureLimit .halted
      (s.controller.failures + 1)]
  else
    stateChanged s.bus.round s.bus.slot s.stationNumber cause .listen (s.controller.failures + 1) ::
      (if s.controller.pendingLeave then
        [stateChanged s.bus.round s.bus.slot s.stationNumber .hostLeave .standby
          (s.controller.failures + 1)]
      else [])

/-- R113, R115: the Station Controller after an exclusion. -/
def State.excludedController (s : State) : Controller :=
  ⟨if 8 ≤ s.controller.failures + 1 then .halted
    else if s.controller.pendingLeave then .standby else .listen,
    s.controller.failures + 1, 0, 0, 0, false,
    if 8 ≤ s.controller.failures + 1 ∨ s.controller.pendingLeave then false
    else s.controller.leaveAtTxEnd⟩

/-- R76, R93: view, counts, SENT posts and donor side cleared and EXCLUDED latched, before the failure. -/
def State.removed (s : State) : State :=
  { s with
    agreement := { s.agreement with view := 0, agree := 0, dissent := 0 }
    posts := { s.posts with posts := s.posts.queuedPosts }
    transfer := { s.transfer with joinQueue := [], serving := none }
    host := (s.setView 0).latchExcluded.host
    events := arrived s.events s.doubtfulRecords }

theorem exclude_removed (s : State) (cause : ChangeCause) :
    s.exclude cause = (s.removed.failToListen cause).honourLeave := by
  unfold State.exclude State.removed
  rw [doubtPosts_eq, setView_eq]
  rfl

theorem honourLeave_listen {s : State} (hstate : s.controller.state = .listen)
    (hleave : s.controller.pendingLeave = true) : s.honourLeave = s.enterStandby :=
  if_pos ⟨hstate, hleave⟩

theorem honourLeave_other {s : State}
    (h : s.controller.state ≠ .listen ∨ s.controller.pendingLeave = false) : s.honourLeave = s := by
  refine if_neg fun hboth => ?_
  obtain h | h := h
  · exact h hboth.1
  · rw [h] at hboth
    exact Bool.noConfusion hboth.2

/-- R76, R78: exclusion, whole. -/
theorem exclude_eq (s : State) (cause : ChangeCause) :
    ∃ receiving, (s.transfer.receiving = none → receiving = none) ∧ s.exclude cause = { s with
      agreement := { s.agreement with view := 0, agree := 0, dissent := 0 }
      posts := { s.posts with posts := s.posts.queuedPosts }
      transfer := ⟨[], none, receiving⟩
      bus := ⟨false, 0, s.bus.slot, s.bus.round, .silent, false, false, none, [], .idle⟩
      frameCheck := ⟨[], [], s.frameCheck.tag, none⟩
      host := (s.setView 0).latchExcluded.host
      controller := s.excludedController
      events := arrived s.events (s.doubtfulRecords ++ s.exclusionRecords cause) } := by
  rw [exclude_removed, arrived_append, State.exclusionRecords, State.excludedController]
  by_cases hlimit : 8 ≤ s.controller.failures + 1
  · rw [failToListen_limit (s := s.removed) hlimit, honourLeave_other (.inl (by exact nofun))]
    simp only [hlimit, if_true, true_or]
    exact ⟨s.transfer.receiving, id, rfl⟩
  · rw [failToListen_below (s := s.removed) (Nat.not_le.mp hlimit)]
    cases hleave : s.controller.pendingLeave with
    | true =>
      rw [honourLeave_listen (by rfl) (by exact hleave)]
      simp only [hlimit, if_false, if_true, or_true]
      exact ⟨none, fun _ => rfl, rfl⟩
    | false =>
      rw [honourLeave_other (.inr (by exact hleave))]
      simp only [hlimit, if_false, Bool.false_eq_true, or_self]
      refine ⟨s.transfer.receiving, id, ?_⟩
      rw [← hleave]
      rfl

/-- R58, R170: the latches of an exclusion. -/
theorem excluded_latches (s : State) : (s.setView 0).latchExcluded.host.latches =
    ⟨s.host.latches.viewChanged || decide (s.agreement.view ≠ 0), true, s.host.latches.foreign⟩ := by
  show { (s.setView 0).host.latches with excluded := true } = _
  rw [setView_zero_latches]

theorem excluded_phase (s : State) : (s.setView 0).latchExcluded.host.phase = s.host.phase := by
  show (s.setView 0).host.phase = s.host.phase
  exact congrArg Lasting.phase (setView_endures s 0).lasting

/-! ### What the slot of another station leaves a member -/

theorem dropPeer_eq (s : State) (m reason badReason : Nat) : s.dropPeer m reason badReason = { s with
    agreement := { s.agreement with view := stationRemove s.agreement.view m }
    host := (s.setView (stationRemove s.agreement.view m)).host
    events := arrive s.events ⟨.peerDropped, s.bus.round, byteOf s.bus.slot, byteOf m, 0, 0,
      byteOf reason, 0, byteOf badReason⟩ } := by
  unfold State.dropPeer
  rw [setView_eq]
  rfl

/-- R63 to R73: the slot of another station reaches neither controller nor posts, and of the Bus Interface
the slot timer only. -/
theorem judgeMember_other {s : State} (hown : s.bus.slot ≠ s.stationNumber) (v : Verdict) :
    ∃ timer cells agreement transfer watch events host, s.judgeMember v = { s with
      bus := { s.bus with slotTimer := timer }, cells := cells, agreement := agreement
      transfer := transfer, watch := watch, events := events, host := host } := by
  cases hin : stationIn s.agreement.view s.bus.slot with
  | false =>
    rw [judgeMember_outside hown hin, nonMemberSlot_eq, noteNonMember_eq]
    exact ⟨_, _, _, _, _, _, _, rfl⟩
  | true =>
    have hdissent : ∀ reason badReason, ∃ timer cells agreement transfer watch events host,
        s.countDissent.dropPeer s.bus.slot reason badReason = { s with
          bus := { s.bus with slotTimer := timer }, cells := cells, agreement := agreement
          transfer := transfer, watch := watch, events := events, host := host } :=
      fun _ _ => ⟨_, _, _, _, _, _, _, dropPeer_eq ..⟩
    rw [judgeMember_inside hown hin]
    unfold State.memberSlot
    split
    · exact ⟨_, _, _, _, _, _, _, dropPeer_eq ..⟩
    · exact hdissent _ _
    · next f =>
      split
      · obtain ⟨_, _, _, _, haccepted⟩ := acceptedBy_eq s f
        rw [acceptFrame_eq, haccepted, correctTimer_eq]
        exact ⟨_, _, _, _, _, _, _, rfl⟩
      · exact hdissent _ _
    · rw [joinRequest_eq, dropPeer_eq]
      exact ⟨_, _, _, _, _, _, _, rfl⟩
    · exact hdissent _ _

/-- R27, R75: the end of the slot before the own one leads to the own slot start. -/
theorem exec_slotEnd_beforeOwn {s : State} {v : Verdict} (hm : s.controller.state = .member)
    (hend : s.SlotEndsWith v) (hown : s.bus.slot ≠ s.stationNumber)
    (hnext : s.nextSlot = s.stationNumber) :
    ∃ u : State, exec .slotEnd s = .next u.signalOwnSlot ∧ u.controller = s.controller ∧
      u.bus.slot = s.stationNumber ∧ u.bus.round = s.nextRound ∧ u.posts = s.posts ∧
      u.config = s.config := by
  have hline := atBoundary_eq hend (by rw [hm]; decide)
  obtain ⟨timer, cells, agreement, transfer, watch, events, host, hjudge⟩ :=
    judgeMember_other (s := s.atBoundary) hown v
  have hslot : s.atBoundary.judgeSlot v = s.atBoundary.judgeMember v := by
    have hstate : s.atBoundary.controller.state = .member := hm
    simp only [State.judgeSlot, hstate]
  have htimer : (s.slotSixteenths : Int) - (s.slotSixteenths - timer) = timer := by omega
  refine ⟨_, exec_slotEnd_stays (d := s.slotSixteenths - timer) hend (hslot.trans hjudge) ?_ ?_, ?_,
    hnext, rfl, ?_, ?_⟩
  all_goals rw [hline]
  rw [htimer]

/-- R71, R123, R125: a silent slot outside the view reaches the donor side only. -/
theorem exec_slotEnd_silentOutside {s : State} (hm : s.controller.state = .member)
    (hend : s.SlotEndsWith .silent) (hown : s.bus.slot ≠ s.stationNumber)
    (hout : stationIn s.agreement.view s.bus.slot = false) :
    exec .slotEnd s = .next (State.inNextSlot { s with transfer := { s.transfer with
      joinQueue := s.transfer.joinQueue.filter (· ≠ s.bus.slot)
      serving := s.transfer.serving.map fun sv =>
        if sv.joiner = s.bus.slot then { sv with word := .silent } else sv } } 0).signalOwnSlot := by
  rw [exec_slotEnd_nonMemberSlot hm hend hown hout, nonMemberSlot_eq]
  rfl

/-- Settles O38: exclusion at the own slot start, and the slot end before it. -/
theorem evaluationExcludes : Obligations.EvaluationExcludes := by
  intro s v hm
  refine ⟨fun hend hown hnext => ?_, fun hslot hless => ⟨_, rfl, ?_⟩⟩
  · by_cases hsilent : v = .silent ∧ stationIn s.agreement.view s.bus.slot = false
    · obtain ⟨rfl, hout⟩ := hsilent
      exact ⟨_, exec_slotEnd_silentOutside hm hend hown hout, rfl, hnext, rfl, rfl, rfl,
        fun _ _ => ⟨rfl, rfl, rfl⟩⟩
    · obtain ⟨u, hexec, hcontroller, hslot, hround, hposts, hconfig⟩ :=
        exec_slotEnd_beforeOwn hm hend hown hnext
      exact ⟨u, hexec, hcontroller, hslot, hround, hposts, hconfig,
        fun hv hout => absurd ⟨hv, hout⟩ hsilent⟩
  · have hevaluation : s.signalOwnSlot = s.exclude .excluded := by
      rw [signalOwnSlot_own hslot]
      simp only [State.ownSlotStart, hm, State.ownSlotEvaluation, if_pos hless]
    obtain ⟨receiving, hreceiving, hexclude⟩ := exclude_eq s .excluded
    rw [hevaluation, hexclude]
    refine ⟨rfl, rfl, rfl, rfl, hreceiving, rfl, rfl, rfl, rfl, rfl, rfl, rfl, rfl,
      excluded_phase s, excluded_latches s, rfl, ?_⟩
    rw [State.doubtfulRecords, State.exclusionRecords, hslot]

/-- R35, R78: the loopback of a slot whose frame was not heard back as it was sent. -/
theorem loopbackIntact_failed {s : State} {v : Verdict}
    (h : (∀ f m, v ≠ .intact f m) ∨ s.bus.loopback ≠ s.frameCheck.transmit ∨ s.bus.carried = true) :
    s.loopbackIntact v = none := by
  unfold State.loopbackIntact
  split
  · next f m =>
    refine if_neg fun ⟨hloop, hcarried⟩ => ?_
    obtain h | h | h := h
    · exact h f m rfl
    · exact h hloop
    · rw [h] at hcarried
      exact Bool.noConfusion hcarried
  · rfl
  · rfl

/-- Settles O41: the failed loopback excludes the station at its own slot's end. -/
theorem loopbackFailureExcludes : Obligations.LoopbackFailureExcludes := by
  intro s v hm hend hslot htransmit hfailed
  have hjudge : State.judgeSlot (s.withLine s.boundaryBus s.rxdAtSlotEnd) v =
      State.exclude (s.withLine s.boundaryBus s.rxdAtSlotEnd) .loopback := by
    have hnone := loopbackIntact_failed (s := s.withLine s.boundaryBus s.rxdAtSlotEnd) hfailed
    rw [← ownSlotEnd_failed (by exact htransmit) hnone]
    exact judgeSlot_own (s := s.withLine s.boundaryBus s.rxdAtSlotEnd) hm hslot v
  obtain ⟨receiving, -, hexclude⟩ :=
    exclude_eq (s.withLine s.boundaryBus s.rxdAtSlotEnd) .loopback
  rw [hexclude] at hjudge
  obtain ⟨slot, round, hexec, hnumbers⟩ :=
    exec_slotEnd_out hend (by rw [hm]; decide) hjudge rfl
  exact ⟨_, hexec, rfl, rfl, rfl, rfl, hnumbers, rfl, rfl, rfl, rfl, rfl,
    excluded_latches (s.withLine s.boundaryBus s.rxdAtSlotEnd),
    excluded_phase (s.withLine s.boundaryBus s.rxdAtSlotEnd), rfl, rfl⟩

/-! ### The donor's decision -/

theorem donorDecision_notDonor {s : State}
    (h : noneBelow s.agreement.view s.stationNumber = false) : s.donorDecision = (s, none) :=
  if_neg (ne_true_of_eq_false h)

theorem donorDecision_idle {s : State} (hdonor : noneBelow s.agreement.view s.stationNumber = true)
    (hnone : s.transfer.serving = none) : s.donorDecision = s.startService := by
  refine (if_pos hdonor).trans ?_
  rw [hnone]

/-- R126: the decision of a donor that serves a joiner, by its word. -/
def State.servingDecision (s : State) (sv : Serving) : State × Option TransferSection :=
  match sv.word with
  | .join none => s.supply sv.joiner 0
  | .join (some e) =>
    if e = sv.next then s.supply sv.joiner sv.next
    else if e = 0 then s.supply sv.joiner 0
    else s.abandon sv 3
  | .silent => s.abandon sv 1
  | .none => s.abandon sv 1
  | .bad => s.abandon sv 2
  | .other => s.abandon sv 4

theorem donorDecision_serving {s : State} {sv : Serving}
    (hdonor : noneBelow s.agreement.view s.stationNumber = true)
    (hserving : s.transfer.serving = some sv) : s.donorDecision = s.servingDecision sv := by
  refine (if_pos hdonor).trans ?_
  rw [hserving]
  rfl

theorem cellsAt_eq (s : State) {first : Nat} (h : first ≤ 28) :
    s.cellsAt first = #v[s.cells.getD first .initial, s.cells.getD (first + 1) .initial,
      s.cells.getD (first + 2) .initial, s.cells.getD (first + 3) .initial] := by
  have hcell : ∀ n, n < 32 → s.cell (Fin.ofNat 32 n) = s.cells.getD n .initial := by
    intro n hn
    simp [State.cell, Nat.mod_eq_of_lt hn, Vector.getD, Array.getD_eq_getD_getElem?, hn]
  rw [State.cellsAt, hcell first (by omega), hcell (first + 1) (by omega),
    hcell (first + 2) (by omega), hcell (first + 3) (by omega)]

/-- R127: the joiner served out of the queue with its service, reported with a reason. -/
def State.abandoned (s : State) (sv : Serving) (reason : Nat) : State :=
  { s with
    transfer := { s.transfer with
      joinQueue := s.transfer.joinQueue.filter (· ≠ sv.joiner), serving := none }
    events := arrive s.events ⟨.joinerAbandoned, s.bus.round, byteOf s.bus.slot,
      byteOf sv.joiner, byteOf sv.next, 0, byteOf reason, 0, 0⟩ }

theorem abandon_eq (s : State) (sv : Serving) (reason : Nat) :
    s.abandon sv reason = (s.abandoned sv reason).startService := rfl

/-- Settles O40: the donor's decision by what it serves and by the word. -/
theorem donorDecidesByWord : Obligations.DonorDecidesByWord := by
  intro s sv joiner e rest reason
  refine ⟨donorDecision_notDonor, fun hdonor => ⟨?idle, ?start, ?continues, ?restart, ?abandon⟩⟩
  case idle =>
    intro hserving hqueue
    rw [donorDecision_idle hdonor hserving, State.startService, hqueue]
  case start =>
    intro hserving hqueue
    rw [donorDecision_idle hdonor hserving, State.startService, hqueue]
    rfl
  case continues =>
    intro hserving hword _ hle
    rw [donorDecision_serving hdonor hserving]
    simp only [State.servingDecision, hword, if_true, State.supply, cellsAt_eq s hle]
  case restart =>
    intro hserving hword
    rw [donorDecision_serving hdonor hserving]
    obtain hword | hword := hword
    · simp only [State.servingDecision, hword]
      rfl
    · simp only [State.servingDecision, hword, if_true]
      split
      · next hzero => rw [← hzero]; rfl
      · rfl
  case abandon =>
    intro hserving hreason
    show s.donorDecision = (s.abandoned sv reason).startService
    rw [donorDecision_serving hdonor hserving, ← abandon_eq]
    obtain ⟨hword | hword, rfl⟩ | ⟨hword, rfl⟩ | ⟨hword, hnext, hzero, rfl⟩ | ⟨hword, rfl⟩ := hreason
    · simp only [State.servingDecision, hword]
    · simp only [State.servingDecision, hword]
    · simp only [State.servingDecision, hword]
    · simp only [State.servingDecision, hword, if_neg hnext, if_neg hzero]
    · simp only [State.servingDecision, hword]

/-- The donor's decision neither reads nor reaches posts, counts and controller. -/
def State.evaluatedAs (s : State) (posts : PostQueue) (agree dissent : Nat) (controller : Controller) :
    State :=
  { s with
    posts := posts, controller := controller
    agreement := { s.agreement with agree := agree, dissent := dissent } }

section
variable (s : State) (posts : PostQueue) (agree dissent : Nat) (controller : Controller)

theorem startService_evaluatedAs :
    (s.evaluatedAs posts agree dissent controller).startService =
      (s.startService.1.evaluatedAs posts agree dissent controller, s.startService.2) := by
  unfold State.startService
  show (match s.transfer.joinQueue with | [] => _ | joiner :: _ => _) = _
  cases s.transfer.joinQueue <;> rfl

theorem abandon_evaluatedAs (sv : Serving) (reason : Nat) :
    (s.evaluatedAs posts agree dissent controller).abandon sv reason =
      ((s.abandon sv reason).1.evaluatedAs posts agree dissent controller,
        (s.abandon sv reason).2) := by
  rw [abandon_eq, abandon_eq]
  exact startService_evaluatedAs (s.abandoned sv reason) posts agree dissent controller

theorem donorDecision_evaluatedAs :
    (s.evaluatedAs posts agree dissent controller).donorDecision =
      (s.donorDecision.1.evaluatedAs posts agree dissent controller, s.donorDecision.2) := by
  cases hdonor : noneBelow s.agreement.view s.stationNumber with
  | false =>
    rw [donorDecision_notDonor hdonor]
    exact donorDecision_notDonor hdonor
  | true =>
    cases hserving : s.transfer.serving with
    | none =>
      rw [donorDecision_idle hdonor hserving, ← startService_evaluatedAs]
      exact donorDecision_idle (by exact hdonor) hserving
    | some sv =>
      have habandon := abandon_evaluatedAs s posts agree dissent controller sv
      rw [donorDecision_serving hdonor hserving]
      refine (donorDecision_serving (by exact hdonor) (by exact hserving)).trans ?_
      unfold State.servingDecision
      split
      · rfl
      · split
        · rfl
        · split
          · rfl
          · exact habandon 3
      · exact habandon 1
      · exact habandon 1
      · exact habandon 2
      · exact habandon 4

end

/-! ### The evaluation that keeps the station -/

theorem packPosts_queued (stamp : Round) (n : Nat) {posts : List Post}
    (h : ∀ p ∈ posts, p.queued = true) : packPosts stamp n posts =
      (posts.take n).map (fun p => { p with status := .sent stamp none }) ++ posts.drop n := by
  induction posts generalizing n with
  | nil => cases n <;> rfl
  | cons p rest ih =>
    cases n with
    | zero => rfl
    | succ n =>
      unfold packPosts
      rw [if_pos (h p List.mem_cons_self), ih n fun q hq => h q (List.mem_cons_of_mem p hq)]
      rfl

/-- R92: with their results stored, the SENT posts settle with the records of R153. -/
theorem settledEvents_eq {s : State} (hslot : s.bus.slot = s.stationNumber)
    (hresults : ∀ p ∈ s.posts.posts, ∀ stamp, p.status ≠ .sent stamp none) :
    s.posts.sentPosts.map s.settledEvent = s.settledRecords := by
  unfold PostQueue.sentPosts State.settledRecords
  refine List.map_congr_left fun p hp => ?_
  obtain ⟨hmem, hsent⟩ := List.mem_filter.mp hp
  unfold State.settledEvent
  cases hstatus : p.status with
  | queued => simp [Post.queued, hstatus] at hsent
  | sent stamp result =>
    cases result with
    | none => exact absurd hstatus (hresults p hmem stamp)
    | some r =>
      rw [← hslot]
      rfl

/-- R75: the station settled, its counts and its failure count at 0. -/
def State.keptInView (s : State) : State :=
  { s with
    posts := { s.posts with posts := s.posts.queuedPosts }
    agreement := { s.agreement with agree := 0, dissent := 0 }
    controller := { s.controller with failures := 0 }
    events := arrived s.events (s.posts.sentPosts.map s.settledEvent) }

theorem keepInView_eq (s : State) : s.keepInView false =
    if s.controller.pendingLeave then s.keptInView.buildFarewell else s.keptInView.buildTally := by
  unfold State.keepInView
  rw [settlePosts_eq]
  rfl

theorem queuedPosts_queued (q : PostQueue) : ∀ p ∈ q.queuedPosts, p.queued = true :=
  fun _ hp => (List.mem_filter.mp hp).2

/-- R90: of a queue without SENT posts every post is QUEUED. -/
theorem filter_queuedPosts (q : PostQueue) : q.queuedPosts.filter Post.queued = q.queuedPosts :=
  List.filter_eq_self.mpr (queuedPosts_queued q)

theorem ownSlotEvaluation_keeps {s : State} (h : s.agreement.dissent ≤ s.agreement.agree)
    (founder : Bool) : s.ownSlotEvaluation founder = s.keepInView founder :=
  if_neg (Nat.not_lt.mpr h)

/-- Settles O39: the settlement, the donor's decision and the frame built. -/
theorem evaluationKeepsAndPacks : Obligations.EvaluationKeepsAndPacks := by
  intro s decided hm
  refine ⟨fun hslot hle hresults hdecided => ⟨_, rfl, ?_⟩, fun hend hown hout _ =>
    exec_slotEnd_silentOutside hm hend hown hout⟩
  have hevaluation : s.signalOwnSlot = s.keepInView false := by
    rw [signalOwnSlot_own hslot]
    simp only [State.ownSlotStart, hm, ownSlotEvaluation_keeps hle]
  have hsettled := settledEvents_eq hslot hresults
  rw [hevaluation, keepInView_eq]
  cases hleave : s.controller.pendingLeave with
  | true =>
    rw [if_pos rfl]
    refine ⟨rfl, rfl, rfl, rfl, rfl, rfl, rfl, rfl, rfl, rfl, rfl, fun h => Bool.noConfusion h,
      fun _ => ⟨congrArg (arrived s.events) hsettled, rfl, rfl, rfl⟩⟩
  | false =>
    rw [if_neg Bool.false_ne_true]
    have hdecision : s.keptInView.donorDecision = (decided.1.evaluatedAs
        { s.posts with posts := s.posts.queuedPosts } 0 0 { s.controller with failures := 0 },
        decided.2) := by
      rw [hdecided, ← donorDecision_evaluatedAs, State.keptInView, hsettled]
      rfl
    have hsame := donorDecision_eq { s with events := arrived s.events s.settledRecords }
    rw [← hdecided] at hsame
    have hbuilt : s.keptInView.buildTally = { s with
        bus := { s.bus with tx := .built, loopback := [] }
        agreement := { s.agreement with agree := 0, dissent := 0 }
        controller := { s.controller with failures := 0 }
        posts := { s.posts with posts := packPosts s.bus.round 4 s.posts.queuedPosts }
        transfer := decided.1.transfer, events := decided.1.events
        frameCheck := { s.frameCheck with
          transmit := (Frame.tally ⟨s.stationNumber, s.bus.round, s.configTag, s.agreement.view,
            s.agreement.digest, false,
            ((s.posts.queuedPosts.filter Post.queued).take 4).map Post.contribution,
            decided.2⟩).bytes } } := by
      unfold State.buildTally
      rw [hdecision, hsame]
      rfl
    rw [hbuilt, packPosts_queued _ _ (queuedPosts_queued s.posts), filter_queuedPosts]
    exact ⟨rfl, rfl, rfl, rfl, rfl, rfl, rfl, rfl, rfl, rfl, rfl, fun _ => ⟨rfl, rfl, rfl, rfl⟩,
      fun h => Bool.noConfusion h⟩

end Sys2Proof.Machine
end

section
/-! PROOF. The slot ends of a joiner: the loopback of its JOIN (R110), the transfer that begins (R109, R130),
the frames of the donor (R133, R134) and of the stations it follows (R132). -/

namespace Sys2Proof.Machine

-- One theorem after another: each proof checked beside another takes a thread with memory of its own.
set_option Elab.async false

/-- R27, R30, R32: the next slot of a judged station still in the schedule, its round set by the
judgement. -/
theorem exec_slotEnd_renumbered {s t : State} {v : Verdict} {d : Int} {round : Round}
    (hend : s.SlotEndsWith v) (hjudge : s.atBoundary.judgeSlot v = t)
    (hbus : t.bus = { s.boundaryBus with slotTimer := s.slotSixteenths - d, round := round })
    (hconfig : t.config = s.config) :
    exec .slotEnd s = .next (State.signalOwnSlot { t with
      bus := { (s.inNextSlot d).bus with
        round := if s.bus.slot + 1 < s.stationCount then round else round + 1 }
      frameCheck := ⟨[], [], t.frameCheck.tag, none⟩ }) := by
  have hsync : s.bus.sync = true := hend.1
  have hcount : t.stationCount = s.stationCount := by simp only [State.stationCount, hconfig]
  have hlength : t.slotSixteenths = s.slotSixteenths := by
    simp only [State.slotSixteenths, State.slotLength, hconfig]
  have htimer : (s.slotSixteenths : Int) - d - s.slotSixteenths = -d := by omega
  obtain ⟨hexec, hverdict⟩ := exec_slotEnd_ends hend
  have hin : t.bus.sync = true := by rw [hbus]; exact hsync
  rw [hexec, slotBoundary_synchronised _ (by rw [hverdict, hjudge]; exact hin), hverdict, hjudge]
  unfold State.beginNextSlot
  simp only [State.nextSlot, State.nextRound, hcount, hlength, hbus, htimer, State.boundaryBus, hsync,
    State.inNextSlot, State.carriedRun, Option.map_map, Option.isSome_map]
  rfl

section
variable {s : State} {v : Verdict} (hend : s.SlotEndsWith v) (hl : s.controller.state ≠ .listen)
include hend hl

theorem exec_slotEnd_kept
    (hjudge : State.judgeSlot (s.withLine s.boundaryBus s.rxdAtSlotEnd) v =
      s.withLine s.boundaryBus s.rxdAtSlotEnd) :
    exec .slotEnd s = .next (s.inNextSlot 0).signalOwnSlot :=
  exec_slotEnd_uncorrected hend hl hjudge

theorem exec_slotEnd_timed
    (hjudge : State.judgeSlot (s.withLine s.boundaryBus s.rxdAtSlotEnd) v =
      (s.withLine s.boundaryBus s.rxdAtSlotEnd).correctTimer) :
    exec .slotEnd s = .next (s.inNextSlot s.correction).signalOwnSlot :=
  exec_slotEnd_corrected hend hl hjudge

theorem exec_slotEnd_heard {tag : Byte}
    (hjudge : State.judgeSlot (s.withLine s.boundaryBus s.rxdAtSlotEnd) v =
      (s.withLine s.boundaryBus s.rxdAtSlotEnd).foreignHeard s.bus.slot tag) :
    exec .slotEnd s = .next ((s.foreignHeard s.bus.slot tag).inNextSlot 0).signalOwnSlot := by
  rw [foreignHeard_eq] at hjudge ⊢
  exact exec_slotEnd_uncorrected hend hl hjudge

end

/-! ### The loopback of the own JOIN -/

theorem judgeSlot_ownJoin {s : State}
    (hstate : s.controller.state = .joining ∨ s.controller.state = .receiving)
    (hown : s.bus.slot = s.stationNumber) (v : Verdict) : s.judgeSlot v = s.ownJoinEnd v := by
  obtain h | h := hstate <;> simp only [State.judgeSlot, h, hown, if_true]

theorem ownJoinEnd_intact {s : State} {v : Verdict} {f : Frame} (h : s.loopbackIntact v = some f) :
    s.ownJoinEnd v = s := by
  unfold State.ownJoinEnd
  rw [h]
  exact ite_self s

theorem ownJoinEnd_failed {s : State} {v : Verdict} (htransmit : s.frameCheck.transmit ≠ [])
    (h : s.loopbackIntact v = none) :
    s.ownJoinEnd v = (s.setReceiving none).failToListen .loopback := by
  rw [State.ownJoinEnd, if_neg htransmit, h]

/-- Settles O46: the intact loopback goes on, a failed one is a failure. -/
theorem joinLoopbackDecides : Obligations.JoinLoopbackDecides := by
  intro s v hstate hend hown htransmit hnext
  have hl : s.controller.state ≠ .listen := by
    obtain h | h := hstate <;> rw [h] <;> decide
  have hslot := judgeSlot_ownJoin (s := s.withLine s.boundaryBus s.rxdAtSlotEnd) hstate hown v
  refine ⟨fun ⟨f, m, hv⟩ hloop hcarried hread => ?_, fun hfailed => ?_⟩
  · obtain ⟨g, hg⟩ := Option.ne_none_iff_exists'.mp hread
    subst hv
    have hintact : (s.withLine s.boundaryBus s.rxdAtSlotEnd).loopbackIntact (.intact f m) = some g :=
      loopbackIntact_of (by exact hloop) (by exact hcarried) hg
    exact (exec_slotEnd_kept hend hl (hslot.trans (ownJoinEnd_intact hintact))).trans
      (congrArg _ (signalOwnSlot_other (by exact hnext)))
  · have hnone := loopbackIntact_failed (s := s.withLine s.boundaryBus s.rxdAtSlotEnd) hfailed
    rw [ownJoinEnd_failed (by exact htransmit) hnone] at hslot
    by_cases hlimit : 8 ≤ s.controller.failures + 1
    · rw [failToListen_limit (by exact hlimit)] at hslot
      obtain ⟨slot, round, hexec, hnumbers⟩ := exec_slotEnd_out hend hl hslot rfl
      exact ⟨_, hexec, rfl, hnumbers, fun h => absurd hlimit (Nat.not_le.mpr h), fun _ => ⟨rfl, rfl⟩⟩
    · rw [failToListen_below (by exact Nat.not_le.mp hlimit)] at hslot
      obtain ⟨slot, round, hexec, hnumbers⟩ := exec_slotEnd_out hend hl hslot rfl
      exact ⟨_, hexec, rfl, hnumbers, fun _ => ⟨rfl, rfl⟩, fun h => absurd h hlimit⟩

/-! ### Cells and contributions of a transfer -/

theorem setIfInBounds_eq_set {α : Type} {n i : Nat} (h : i < n) (xs : Vector α n) (x : α) :
    xs.setIfInBounds i x = xs.set i x := by
  ext j hj
  rw [Vector.getElem_setIfInBounds, Vector.getElem_set]

theorem setCell_ofNat (s : State) {i : Nat} (h : i < 32) (c : Cell) :
    s.setCell (Fin.ofNat 32 i) c = { s with cells := s.cells.setIfInBounds i c } := by
  have hindex : (Fin.ofNat 32 i).val = i := Nat.mod_eq_of_lt h
  unfold State.setCell
  simp only [hindex, setIfInBounds_eq_set h]

/-- R23: the four cells of a section installed. -/
def installedAt (cells : Vector Cell 32) (first : Nat) (x : TransferSection) : Vector Cell 32 :=
  (((cells.setIfInBounds first x.cells[0]).setIfInBounds (first + 1) x.cells[1]).setIfInBounds
    (first + 2) x.cells[2]).setIfInBounds (first + 3) x.cells[3]

theorem installedAt_first (cells : Vector Cell 32) (x : TransferSection) : installedAt cells 0 x =
    (((cells.set 0 x.cells[0]).set 1 x.cells[1]).set 2 x.cells[2]).set 3 x.cells[3] := by
  simp only [installedAt, setIfInBounds_eq_set, Nat.reduceAdd, Nat.reduceLT]

theorem installedAt_last (cells : Vector Cell 32) (x : TransferSection) : installedAt cells 28 x =
    (((cells.set 28 x.cells[0]).set 29 x.cells[1]).set 30 x.cells[2]).set 31 x.cells[3] := by
  simp only [installedAt, setIfInBounds_eq_set, Nat.reduceAdd, Nat.reduceLT]

theorem installCells_eq (s : State) {x : TransferSection} (h : x.first ≤ 28) :
    s.installCells x = { s with cells := installedAt s.cells x.first x } := by
  unfold State.installCells
  rw [setCell_ofNat _ (by omega), setCell_ofNat _ (by omega), setCell_ofNat _ (by omega),
    setCell_ofNat _ (by omega)]
  rfl

/-- R131: a contribution reaches a received cell, and the digest always. -/
theorem followContribution_eq {s : State} {r : Receiving} (hm : s.controller.state ≠ .member)
    (hr : s.transfer.receiving = some r) (origin : Nat) (c : Contribution) :
    State.followContribution origin s c = { s with
      cells := contributed s s.cells ([c].filter fun c => c.cell.val < r.next)
      agreement := { s.agreement with digest := advanceDigest s.agreement.digest origin c } } := by
  have hreceived : s.received c.cell = decide (c.cell.val < r.next) := by
    simp only [State.received, hr]
  unfold State.followContribution
  rw [hreceived]
  by_cases h : c.cell.val < r.next
  · have hplain : s.applyToCell origin c = _ := (contributionReachesWatches s origin c _ rfl).1 hm
    simp only [h, decide_true, if_true, List.filter_cons_of_pos, List.filter_nil, hplain]
    rfl
  · simp only [h, decide_false, Bool.false_eq_true, if_false, not_false_eq_true,
      List.filter_cons_of_neg, List.filter_nil]
    rfl

/-- R131: a frame's contributions reach the received cells and the digest of a joiner. -/
theorem followContributions_eq {r : Receiving} (origin : Nat) (list : List Contribution) :
    ∀ s : State, s.controller.state ≠ .member → s.transfer.receiving = some r →
      list.foldl (State.followContribution origin) s = { s with
        cells := contributed s s.cells (list.filter fun c => c.cell.val < r.next)
        agreement := { s.agreement with digest := digested s.agreement.digest origin list } } := by
  induction list with
  | nil => exact fun _ _ _ => rfl
  | cons c rest ih =>
    intro s hm hr
    rw [List.foldl_cons, followContribution_eq hm hr, ih _ (by exact hm) (by exact hr)]
    have hsplit : (c :: rest).filter (fun c => decide (c.cell.val < r.next)) =
        ([c].filter fun c => c.cell.val < r.next) ++ rest.filter fun c => c.cell.val < r.next := by
      rw [← List.filter_append, List.singleton_append]
    rw [hsplit]
    simp only [contributed, List.foldl_append]
    rfl

/-- R131, R133: cells installed, and the contributions applied to the received ones. -/
theorem followContributions_installed {s : State} {r : Receiving} {x : TransferSection}
    (hm : s.controller.state ≠ .member) (hfirst : x.first ≤ 28) (f : TallyFrame) :
    ((s.installCells x).setReceiving (some r)).followContributions f = { s with
      cells := contributed s (installedAt s.cells x.first x)
        (f.contributions.filter fun c => c.cell.val < r.next)
      agreement := { s.agreement with
        digest := digested s.agreement.digest f.sender f.contributions }
      transfer := { s.transfer with receiving := some r } } := by
  rw [installCells_eq s hfirst, State.followContributions,
    followContributions_eq (r := r) f.sender f.contributions _ (by exact hm) rfl]
  rfl

/-! ### The beginning of a transfer -/

theorem judgeJoining_passing {s : State} {g : Frame}
    (h : ∀ y z, g = .tally y → y.transfer = some z → z.joiner ≠ s.stationNumber) :
    s.judgeJoining (.intact g true) = if g.round = s.bus.round then s.correctTimer else s := by
  cases g with
  | join j => rfl
  | tally y =>
    show s.joiningTally y = _
    unfold State.joiningTally
    cases hz : y.transfer with
    | none => rfl
    | some z => exact if_neg (h y z rfl hz)

theorem joiningTally_named {s : State} {f : TallyFrame} {x : TransferSection}
    (hx : f.transfer = some x) (hjoiner : x.joiner = s.stationNumber) :
    s.joiningTally f = if x.first = 0 then s.transferBegun f x else s.correctTimer := by
  unfold State.joiningTally
  rw [hx]
  exact if_pos hjoiner

/-- R130: the transfer begins. -/
theorem transferBegun_eq (s : State) {x : TransferSection} (hfirst : x.first = 0) (f : TallyFrame) :
    s.transferBegun f x = State.correctTimer { s with
      bus := { s.bus with round := f.round }
      agreement := { s.agreement with digest := digested f.digest f.sender f.contributions }
      cells := contributed s (installedAt s.cells 0 x) (f.contributions.filter fun c => c.cell.val < 4)
      controller := { s.controller with state := .receiving, joinTimer := 0 }
      transfer := { s.transfer with receiving := some ⟨f.view, 4, f.sender⟩ }
      events := arrive s.events (stateChanged s.bus.round s.bus.slot s.stationNumber
        .transferBegun .receiving s.controller.failures) } := by
  unfold State.transferBegun State.beginTransfer
  dsimp only
  rw [followContributions_installed (by exact nofun) (by rw [hfirst]; decide), hfirst]
  rfl

/-- Settles O47: the verdicts of a slot in JOINING, case by case. -/
theorem transferFrameBeginsReceiving : Obligations.TransferFrameBeginsReceiving := by
  intro s v f g x reason hstate hend hother
  have hl : s.controller.state ≠ .listen := by rw [hstate]; decide
  have hjudge := judgeSlot_joining (s := s.withLine s.boundaryBus s.rxdAtSlotEnd) hstate hother v
  refine ⟨fun hv hx hjoiner hfirst => ?again, fun hv hpassing => ?passing, fun hv => ?foreign,
    fun hv => ?nothing, fun hv hx hjoiner hfirst => ?begins⟩
  case again =>
    subst hv
    exact exec_slotEnd_timed hend hl
      (hjudge.trans ((joiningTally_named hx (by exact hjoiner)).trans (if_neg hfirst)))
  case passing =>
    subst hv
    rw [judgeJoining_passing (by exact hpassing)] at hjudge
    by_cases hround : g.round = s.bus.round
    · rw [if_pos hround]
      exact exec_slotEnd_timed hend hl (hjudge.trans (if_pos hround))
    · rw [if_neg hround]
      exact exec_slotEnd_kept hend hl (hjudge.trans (if_neg hround))
  case foreign =>
    subst hv
    refine exec_slotEnd_heard hend hl (hjudge.trans ?_)
    cases g <;> rfl
  case nothing =>
    obtain rfl | rfl := hv
    · exact exec_slotEnd_kept hend hl hjudge
    · exact exec_slotEnd_kept hend hl hjudge
  case begins =>
    subst hv
    have hbegun := hjudge.trans ((joiningTally_named hx (by exact hjoiner)).trans (if_pos hfirst))
    rw [transferBegun_eq _ hfirst, correctTimer_eq, installedAt_first] at hbegun
    have hboundary := congrArg (State.judgeSlot · (.intact (.tally f) true)) (atBoundary_eq hend hl)
    exact exec_slotEnd_renumbered (d := s.correction) (round := f.round) hend
      (hboundary.trans hbegun) rfl rfl

/-! ### The donor's frames -/

theorem agreesFollowed_iff (s : State) (r : Receiving) (f : TallyFrame) :
    s.agreesFollowed r f = true ↔
      f.round = s.bus.round ∧ f.view = r.followed ∧ f.digest = s.agreement.digest := by
  simp only [State.agreesFollowed, Bool.and_eq_true, decide_eq_true_eq, and_assoc]

theorem donorSlot_expected {s : State} {r : Receiving} {f : TallyFrame} {x : TransferSection}
    (hagrees : s.agreesFollowed r f = true) (hx : f.transfer = some x)
    (hnamed : x.joiner = s.stationNumber ∧ x.first = r.next) :
    s.donorSlot r (.intact (.tally f) true) = s.acceptDonorFrame r f x := by
  simp only [State.donorSlot, hagrees, if_true, hx, if_pos hnamed]

/-- R133: an accepted donor frame before its ADMIT and the correction. -/
def State.furnished (s : State) (r : Receiving) (f : TallyFrame) (x : TransferSection) : State :=
  { s with
    cells := contributed s (installedAt s.cells r.next x)
      (f.contributions.filter fun c => c.cell.val < r.next + 4)
    agreement := { s.agreement with
      digest := digested s.agreement.digest f.sender f.contributions }
    transfer := { s.transfer with receiving := some { r with next := r.next + 4 } } }

/-- R133: the donor's frame that is expected, judged at the boundary. -/
theorem judgeSlot_donorFrame {s : State} {r : Receiving} {f : TallyFrame} {x : TransferSection}
    (hstate : s.controller.state = .receiving) (hother : s.bus.slot ≠ s.stationNumber)
    (hr : s.transfer.receiving = some r) (hdonor : s.bus.slot = r.donor)
    (hagrees : s.agreesFollowed r f = true) (hx : f.transfer = some x)
    (hjoiner : x.joiner = s.stationNumber) (hfirst : x.first = r.next) (hle : r.next ≤ 28) :
    s.judgeSlot (.intact (.tally f) true) = State.correctTimer
      (if r.next = 28 then (s.furnished r f x).admission { r with next := r.next + 4 }
      else s.furnished r f x) := by
  rw [judgeSlot_receiving hstate hother hr, if_pos hdonor,
    donorSlot_expected hagrees hx ⟨hjoiner, hfirst⟩, State.acceptDonorFrame]
  rw [followContributions_installed (by rw [hstate]; decide) (hfirst ▸ hle), hfirst]
  simp only [admits_iff hx, hfirst]
  rfl

/-- Settles O48: an expected donor frame without ADMIT. -/
theorem donorFrameIsInstalled : Obligations.DonorFrameIsInstalled := by
  intro s r f x offset hstate hend hstart hother hr hdonor hround hview hdigest hx hjoiner hfirst hle
  have hjudge := judgeSlot_donorFrame (s := s.withLine s.boundaryBus s.rxdAtSlotEnd) hstate hother hr
    hdonor ((agreesFollowed_iff ..).mpr ⟨hround, hview, hdigest⟩) hx hjoiner hfirst (by omega)
  rw [if_neg (by omega)] at hjudge
  have hcorrection : s.correction = offset - 16 * 32 := by simp only [State.correction, hstart]; rfl
  rw [← hcorrection]
  exact exec_slotEnd_corrected hend (by rw [hstate]; decide) hjudge

/-- R80, R111, R133, R149: the admission of a joiner whose view was empty. -/
theorem admission_eq {s : State} (r : Receiving) (hlaw : s.WatchLaw) (hview : s.agreement.view = 0)
    (hnumber : s.stationNumber < 16) :
    ∃ host, host.latches = { s.host.latches with viewChanged := true } ∧
      s.admission r = { s with
        agreement := ⟨stationAdd r.followed s.stationNumber, s.agreement.digest, 0, 0,
          s.agreement.foreignSeen⟩
        host := host
        controller := { s.controller with state := .member }
        transfer := { s.transfer with receiving := none }
        watch := s.upToDate
        events := arrived s.events (stateChanged s.bus.round s.bus.slot s.stationNumber .admitted
          .member s.controller.failures :: s.retested s.bus.round s.bus.slot s.cells) } := by
  have hchanged : stationAdd r.followed s.stationNumber ≠ s.agreement.view := by
    intro heq
    have hin := stationIn_add r.followed s.stationNumber s.stationNumber
    simp [heq, hview, hnumber, stationIn] at hin
  have hpicture : (((s.setReceiving none).setView (stationAdd r.followed s.stationNumber)).clearCounts
      ).changeState .member .admitted = { s with
        agreement := ⟨stationAdd r.followed s.stationNumber, s.agreement.digest, 0, 0,
          s.agreement.foreignSeen⟩
        host := ((s.setReceiving none).setView (stationAdd r.followed s.stationNumber)).host
        controller := { s.controller with state := .member }
        transfer := { s.transfer with receiving := none }
        events := arrive s.events (stateChanged s.bus.round s.bus.slot s.stationNumber .admitted
          .member s.controller.failures) } := by
    rw [setView_eq]
    rfl
  refine ⟨_, setView_latches (s.setReceiving none) _ hchanged, ?_⟩
  exact (congrArg State.reevaluateWatches hpicture).trans (reevaluateWatches_lawful (by exact hlaw))

/-- R168: a station that holds a configuration. -/
theorem stationNumber_lt_of_configLaw {s : State} (h : s.ConfigLaw) : s.stationNumber < 16 := by
  unfold State.ConfigLaw at h
  unfold State.stationNumber
  cases hconfig : s.config with
  | none => decide
  | some c =>
    rw [hconfig] at h
    obtain ⟨⟨-, hcount, hstation, -⟩, -⟩ := h
    exact Nat.lt_of_lt_of_le hstation hcount

/-- Settles O49: the furnished station is admitted, from a state whose watch table is sound. -/
theorem lastDonorFrameAdmits : Obligations.LastDonorFrameAdmits := by
  intro s r f x offset hlaw hstate hend hstart hother hr hdonor hround hview hdigest hx hjoiner hfirst
    hnext
  have hempty : s.agreement.view = 0 := by
    have hviewLaw := hlaw.view
    unfold State.ViewLaw at hviewLaw
    rw [hstate] at hviewLaw
    exact hviewLaw
  have hjudge := judgeSlot_donorFrame (s := s.withLine s.boundaryBus s.rxdAtSlotEnd) hstate hother hr
    hdonor ((agreesFollowed_iff ..).mpr ⟨hround, hview, hdigest⟩) hx hjoiner (hfirst.trans hnext.symm)
    (by omega)
  obtain ⟨host, hlatches, hadmission⟩ := admission_eq
    (s := (s.withLine s.boundaryBus s.rxdAtSlotEnd).furnished r f x) { r with next := r.next + 4 }
    hlaw.watch hempty (stationNumber_lt_of_configLaw (s := s) hlaw.config)
  rw [if_pos hnext, hadmission] at hjudge
  have hcorrection : s.correction = offset - 16 * 32 := by simp only [State.correction, hstart]; rfl
  have hall : f.contributions.filter (fun c => decide (c.cell.val < r.next + 4)) =
      f.contributions :=
    List.filter_eq_self.mpr fun c _ => decide_eq_true (by omega)
  have hcells : (s.furnished r f x).cells = contributed s
      ((((s.cells.set 28 x.cells[0]).set 29 x.cells[1]).set 30 x.cells[2]).set 31 x.cells[3])
      f.contributions := by
    rw [← installedAt_last, ← hnext]
    exact congrArg (contributed s _) hall
  have hentries := upToDate_entries
    (s := (s.withLine s.boundaryBus s.rxdAtSlotEnd).furnished r f x) hlaw.watch
  refine ⟨_, exec_slotEnd_corrected hend (by rw [hstate]; decide) hjudge rfl rfl, ?_, rfl, hcells,
    rfl, rfl, rfl, rfl, rfl, hlatches, hentries, upToDate_lines _, rfl⟩
  rw [← hcorrection]

/-! ### What aborts a transfer -/

/-- R28, R115: a station in a passive state makes no own slot step. -/
theorem signalOwnSlot_halted {s : State} (h : s.controller.state = .halted) :
    s.signalOwnSlot = s := by
  simp only [State.signalOwnSlot, State.ownSlotStart, h, ite_self]

/-- R134: the slot end of an aborted transfer, the foreign-seen handling done before it. -/
theorem exec_slotEnd_aborted {s heard : State} {v : Verdict} (hend : s.SlotEndsWith v)
    (hstate : s.controller.state = .receiving)
    (hheard : heard = { s with
      host := heard.host, agreement := heard.agreement, events := heard.events })
    (hjudge : State.judgeSlot (s.withLine s.boundaryBus s.rxdAtSlotEnd) v =
      (heard.withLine s.boundaryBus s.rxdAtSlotEnd).abortTransfer) :
    ∃ t : State, exec .slotEnd s = .next t.signalOwnSlot ∧
      t.transfer = { s.transfer with receiving := none } ∧
      t.agreement = heard.agreement ∧ t.cells = s.cells ∧ t.posts = s.posts ∧
      t.watch = s.watch ∧ t.config = s.config ∧ t.host = heard.host ∧ t.rxd = s.rxdAtSlotEnd ∧
      t.resetn = s.resetn ∧ t.pending = s.pending ∧
      t.frameCheck = (s.inNextSlot 0).frameCheck ∧
      (s.controller.failures + 1 < 8 →
        t.bus = (s.inNextSlot 0).bus ∧
        t.controller = { s.controller with
          state := .joining, failures := s.controller.failures + 1, joinTimer := 0 } ∧
        t.events = arrive heard.events (stateChanged s.bus.round s.bus.slot s.stationNumber
          .transferAbort .joining (s.controller.failures + 1))) ∧
      (8 ≤ s.controller.failures + 1 →
        ((t.bus.slot = s.bus.slot ∧ t.bus.round = s.bus.round) ∨
          (t.bus.slot = s.nextSlot ∧ t.bus.round = s.nextRound)) ∧
        t.bus = ⟨false, 0, t.bus.slot, t.bus.round, .silent, false, false, none, [], .idle⟩ ∧
        t.controller = ⟨.halted, s.controller.failures + 1, 0, 0, 0, false, false⟩ ∧
        t.events = arrive heard.events (stateChanged s.bus.round s.bus.slot s.stationNumber
          .failureLimit .halted (s.controller.failures + 1))) := by
  have hl : s.controller.state ≠ .listen := by rw [hstate]; decide
  generalize heard.host = host, heard.agreement = agreement, heard.events = events at hheard ⊢
  subst hheard
  rw [State.abortTransfer] at hjudge
  by_cases hlimit : 8 ≤ s.controller.failures + 1
  · rw [failToJoining_limit (by exact hlimit)] at hjudge
    obtain ⟨slot, round, hexec, hnumbers⟩ := exec_slotEnd_out hend hl hjudge rfl
    refine ⟨_, hexec.trans (congrArg _ (signalOwnSlot_halted rfl).symm), rfl, rfl, rfl, rfl, rfl, rfl,
      rfl, rfl, rfl, rfl, rfl, fun h => absurd hlimit (Nat.not_le.mpr h), fun _ => ?_⟩
    exact ⟨hnumbers, rfl, rfl, rfl⟩
  · rw [failToJoining_below (by exact Nat.not_le.mp hlimit)] at hjudge
    exact ⟨_, exec_slotEnd_uncorrected hend hl hjudge rfl rfl, rfl, rfl, rfl, rfl, rfl, rfl,
      rfl, rfl, rfl, rfl, rfl, fun _ => ⟨rfl, rfl, rfl⟩, fun h => absurd h hlimit⟩

theorem withLine_foreignHeard (s : State) (b : Bus) (r : Rxd) (n : Nat) (tag : Byte) :
    (s.withLine b r).foreignHeard n tag = (s.foreignHeard n tag).withLine b r := by
  rw [foreignHeard_eq, foreignHeard_eq]
  rfl

theorem donorSlot_unexpected {s : State} {r : Receiving} {f : TallyFrame}
    (h : ¬ (f.round = s.bus.round ∧ f.view = r.followed ∧ f.digest = s.agreement.digest ∧
      ∃ x ∈ f.transfer, x.joiner = s.stationNumber ∧ x.first = r.next)) :
    s.donorSlot r (.intact (.tally f) true) = s.abortTransfer := by
  unfold State.donorSlot
  dsimp only
  split
  · next hagrees =>
    obtain ⟨hround, hview, hdigest⟩ := (agreesFollowed_iff s r f).mp hagrees
    split
    · next x hx => exact if_neg fun hnamed => h ⟨hround, hview, hdigest, x, hx, hnamed⟩
    · rfl
  · rfl

theorem donorSlot_foreign (s : State) (r : Receiving) (g : Frame) :
    s.donorSlot r (.intact g false) = (s.foreignHeard s.bus.slot g.tag).abortTransfer := by
  cases g <;> rfl

theorem followedSlot_foreign (s : State) (r : Receiving) (g : Frame) :
    s.followedSlot r (.intact g false) = (s.foreignHeard s.bus.slot g.tag).abortTransfer := by
  cases g <;> rfl

/-- Settles O50: each cause aborts, and the abort's two outcomes. -/
theorem transferAborts : Obligations.TransferAborts := by
  intro s heard v r reason f j g hstate hend hother hr hheard hcause
  have hjudge : ∀ u : State, u.controller.state = .receiving → u.bus.slot = s.bus.slot →
      u.bus.round = s.bus.round → u.stationNumber = s.stationNumber →
      u.transfer = s.transfer → u.agreement = s.agreement → u.judgeSlot v =
        (if v = .intact g false then u.foreignHeard s.bus.slot g.tag else u).abortTransfer := by
    intro u hstate hslot hround hnumber htransfer hagreement
    rw [judgeSlot_receiving hstate (by rw [hslot, hnumber]; exact hother) (htransfer ▸ hr), hslot]
    obtain ⟨hdonor, h⟩ | ⟨hdonor, hin, h⟩ := hcause
    · rw [if_pos hdonor]
      obtain rfl | rfl | rfl | rfl | ⟨rfl, h⟩ := h
      · rfl
      · rfl
      · rw [if_neg (by nofun)]
        rfl
      · rw [donorSlot_foreign, if_pos rfl, hslot]
      · rw [if_neg (by nofun)]
        exact donorSlot_unexpected (by rw [hround, hagreement, hnumber]; exact h)
    · rw [if_neg hdonor, if_pos hin]
      obtain rfl | rfl | ⟨rfl, h⟩ := h
      · rfl
      · rw [followedSlot_foreign, if_pos rfl, hslot]
      · rw [if_neg (show ¬ Verdict.intact (.tally f) true = .intact g false by nofun)]
        exact if_neg fun hagrees => h (by
          rw [← hround, ← hagreement]
          exact (agreesFollowed_iff u r f).mp hagrees)
  have hjudged := hjudge (s.withLine s.boundaryBus s.rxdAtSlotEnd) hstate rfl rfl rfl rfl rfl
  rw [withLine_foreignHeard, ← apply_ite (State.withLine · s.boundaryBus s.rxdAtSlotEnd),
    ← hheard] at hjudged
  refine exec_slotEnd_aborted hend hstate ?_ hjudged
  rw [hheard, foreignHeard_eq]
  split <;> rfl

/-! ### The stations a joiner follows -/

theorem followedAfter_eq {f : TallyFrame} {slot : Nat} (hsender : f.sender = slot)
    (followed : StationSet) : followedAfter followed f =
      if f.farewell then
        stationRemove
          (match f.transfer with
            | some x => if x.first = 28 then stationAdd followed x.joiner else followed
            | none => followed) slot
      else
        match f.transfer with
        | some x => if x.first = 28 then stationAdd followed x.joiner else followed
        | none => followed := by
  unfold followedAfter
  rw [hsender]
  cases hx : f.transfer with
  | none => rfl
  | some x => simp only [admits_iff hx]

/-- Settles O51: the slots of stations inside and outside the followed view. -/
theorem followedStationIsFollowed : Obligations.FollowedStationIsFollowed := by
  intro s v r f g j reason hstate hend hother hr hdonor
  have hl : s.controller.state ≠ .listen := by rw [hstate]; decide
  have hjudge := judgeSlot_receiving (s := s.withLine s.boundaryBus s.rxdAtSlotEnd) hstate hother hr v
  rw [if_neg (by exact hdonor)] at hjudge
  refine ⟨fun hin => ⟨fun hv => ?removed, fun hv hround hview hdigest hsender => ?followed⟩,
    fun hout => ⟨fun hv => ?join, fun hv => ?passed, fun hv => ?foreign⟩⟩
  case removed =>
    rw [if_pos (by exact hin)] at hjudge
    obtain rfl | rfl := hv
    · exact exec_slotEnd_uncorrected hend hl hjudge
    · exact exec_slotEnd_uncorrected hend hl hjudge
  case followed =>
    subst hv
    have hagrees := (agreesFollowed_iff (s.withLine s.boundaryBus s.rxdAtSlotEnd) r f).mpr
      ⟨hround, hview, hdigest⟩
    have hfollowed := (hjudge.trans (if_pos (by exact hin))).trans (if_pos hagrees)
    have happlied := followContributions_eq (r := r) f.sender f.contributions
      (s.withLine s.boundaryBus s.rxdAtSlotEnd) (by rw [State.withLine, hstate]; decide) hr
    rw [State.followContributions, happlied, followedAfter_eq hsender] at hfollowed
    exact exec_slotEnd_corrected hend hl hfollowed
  case join =>
    subst hv
    rw [if_neg (by exact ne_true_of_eq_false hout)] at hjudge
    by_cases hround : j.round = s.bus.round
    · rw [if_pos hround]
      exact exec_slotEnd_timed hend hl (hjudge.trans (if_pos hround))
    · rw [if_neg hround]
      exact exec_slotEnd_kept hend hl (hjudge.trans (if_neg hround))
  case passed =>
    rw [if_neg (by exact ne_true_of_eq_false hout)] at hjudge
    obtain rfl | rfl | rfl := hv
    · exact exec_slotEnd_kept hend hl hjudge
    · exact exec_slotEnd_kept hend hl hjudge
    · exact exec_slotEnd_kept hend hl hjudge
  case foreign =>
    subst hv
    rw [if_neg (by exact ne_true_of_eq_false hout)] at hjudge
    refine exec_slotEnd_heard hend hl (hjudge.trans ?_)
    cases g <;> rfl

end Sys2Proof.Machine
end

section
/-! PROOF. The listener: the slot ends of a synchronised listener (R106 to R108), and founding (R104). -/

namespace Sys2Proof.Machine

-- One theorem after another: each proof checked beside another takes a thread with memory of its own.
set_option Elab.async false

/-! ### The slot ends of a listener -/

/-- R103, R106: a listener at the end of a slot, its listen timer and its wait count advanced. -/
def State.waitedOn (s : State) : State :=
  { s with controller := { s.controller with
      listenTimer := s.listenAfter (s.timeToReading s.slotSixteenths)
      waitCount := min (s.controller.waitCount + 1) s.stationCount } }

theorem listenAfter_listen {s : State} (h : s.controller.state = .listen) (n : Nat) :
    s.listenAfter n = min (s.controller.listenTimer + n) (s.rxd.highAfter n) := if_pos h

/-- R106: one more slot end counted by a listener. -/
def State.waitCounted (s : State) : State :=
  { s with controller := { s.controller with
      waitCount := min (s.controller.waitCount + 1) s.stationCount } }

theorem atBoundary_waitCounted {s : State} {v : Verdict} (hend : s.SlotEndsWith v) :
    s.atBoundary.waitCounted = s.waitedOn.withLine s.boundaryBus s.rxdAtSlotEnd := by
  obtain ⟨hsync, -, -, htimer, -⟩ := hend
  show { s.atBoundary.waitCounted with bus := s.atBoundary.bus } = _
  rw [atBoundary_bus hsync htimer]
  rfl

theorem judgeSlot_listen {s : State} (hstate : s.controller.state = .listen) (v : Verdict) :
    s.judgeSlot v = s.judgeListen v := by
  simp only [State.judgeSlot, hstate]

theorem judgeListen_matching (s : State) (f : Frame) : s.judgeListen (.intact f true) =
    if f.round = s.bus.round then s.waitCounted.correctTimer
    else State.correctTimer { s.waitCounted with
      bus := { s.waitCounted.bus with round := f.round }
      controller := { s.waitCounted.controller with waitCount := 1 } } := rfl

theorem judgeListen_foreign (s : State) (f : Frame) :
    s.judgeListen (.intact f false) = s.waitCounted.foreignHeard s.bus.slot f.tag := rfl

/-- R107, R108: a listener whose wait is over asks to join. -/
theorem signalOwnSlot_waited {s : State} (hstate : s.controller.state = .listen)
    (hslot : s.bus.slot = s.stationNumber) (hover : s.stationCount ≤ s.controller.waitCount) :
    s.signalOwnSlot = { s with
      bus := { s.bus with tx := .built, loopback := [] }
      frameCheck := { s.frameCheck with transmit :=
        (Frame.join ⟨s.stationNumber, s.bus.round, s.configTag, none⟩).bytes }
      controller := { s.controller with state := .joining, listenTimer := 0, joinTimer := 1 }
      events := arrive s.events (stateChanged s.bus.round s.stationNumber s.stationNumber
        .synchronised .joining s.controller.failures) } := by
  have hleaves : s.ownSlotStart = s.leaveListen := by
    simp only [State.ownSlotStart, hstate, if_pos hover]
  have hrecord : stateChanged s.bus.round s.stationNumber s.stationNumber .synchronised .joining
      s.controller.failures = stateChanged s.bus.round s.bus.slot s.stationNumber .synchronised
        .joining s.controller.failures := by
    rw [hslot]
  rw [signalOwnSlot_own hslot, hleaves, hrecord]
  rfl

theorem signalOwnSlot_waiting {s : State} (hstate : s.controller.state = .listen)
    (hwait : s.controller.waitCount < s.stationCount) : s.signalOwnSlot = s := by
  simp only [State.signalOwnSlot, State.ownSlotStart, hstate, if_neg (Nat.not_le.mpr hwait), ite_self]

/-- Settles O44: the verdicts of a listener's slot, and its own slot starts. -/
theorem listenerWatchesTheSchedule : Obligations.ListenerWatchesTheSchedule := by
  intro s v f waiting hstate
  refine ⟨fun hslot => ⟨signalOwnSlot_waiting hstate, signalOwnSlot_waited hstate hslot⟩,
    fun hend hwaiting => ?_⟩
  obtain rfl : waiting = s.waitedOn := by
    rw [hwaiting, State.waitedOn, listenAfter_listen hstate, State.rxdAtSlotEnd, later_highAfter]
    rfl
  have hjudge := judgeSlot_listen (s := s.atBoundary) hstate v
  have hcounted := atBoundary_waitCounted hend
  have hkept : v = .silent ∨ (∃ r, v = .bad r) →
      exec .slotEnd s = .next (s.waitedOn.inNextSlot 0).signalOwnSlot := by
    intro hv
    have hquiet : s.atBoundary.judgeListen v = s.atBoundary.waitCounted := by
      obtain rfl | ⟨r, rfl⟩ := hv <;> rfl
    rw [hquiet, hcounted] at hjudge
    exact exec_slotEnd_stays (d := 0) hend hjudge (by rw [sub_zero]; rfl) rfl
  refine ⟨hkept, fun hv hround => ?expected, fun hv hround => ?restarted, fun hv => ?foreign,
    fun hv hnext => ?own⟩
  case expected =>
    subst hv
    rw [judgeListen_matching, if_pos (by exact hround), hcounted, correctTimer_eq] at hjudge
    exact exec_slotEnd_stays (d := s.correction) hend hjudge rfl rfl
  case restarted =>
    subst hv
    rw [judgeListen_matching, if_neg (by exact hround), hcounted, correctTimer_eq] at hjudge
    exact exec_slotEnd_renumbered (d := s.correction) (round := f.round) hend hjudge rfl rfl
  case foreign =>
    subst hv
    have hslot : s.atBoundary.bus.slot = s.bus.slot := rfl
    rw [judgeListen_foreign, hcounted, hslot, withLine_foreignHeard, foreignHeard_eq] at hjudge
    have hexec := exec_slotEnd_stays (d := 0) hend hjudge (by rw [sub_zero]; rfl) rfl
    rw [foreignHeard_eq]
    exact hexec
  case own =>
    have hcount : (s.waitedOn.inNextSlot 0).controller.waitCount =
      min (s.controller.waitCount + 1) s.stationCount := rfl
    have hexec := hkept (.inl hv)
    rcases Nat.lt_or_ge (s.controller.waitCount + 1) s.stationCount with hwait | hover
    · rw [Nat.min_eq_left (by omega)] at hcount
      rw [signalOwnSlot_waiting (by exact hstate) (by rw [hcount]; exact hwait)] at hexec
      exact ⟨_, hexec, rfl, fun _ => ⟨rfl, rfl, hstate, hcount, rfl⟩,
        fun h => absurd hwait (Nat.not_lt.mpr h)⟩
    · rw [Nat.min_eq_right hover] at hcount
      rw [signalOwnSlot_waited (by exact hstate) (by exact hnext) (by rw [hcount]; exact Nat.le_refl _)]
        at hexec
      refine ⟨_, hexec, rfl, fun h => absurd h (Nat.not_lt.mpr hover), fun _ => ⟨?_, rfl, ?_, rfl⟩⟩
      · rw [← hnext]
        rfl
      · rw [← hcount]
        rfl

/-! ### The listen time -/

/-- The end of the last low bit so far grows with time, and after ten bit times no more. -/
theorem lastLowEnd_mono (samples : BitVec 10) {t u : Nat} (h : min t (bits 10) ≤ u) :
    lastLowEnd samples t ≤ lastLowEnd samples u := by
  have hfold : ∀ n k m m', k + n ≤ 10 → m ≤ m' → m ≤ bits k →
      (List.range' k n).foldl
          (fun m i => if samples.getLsbD i = false ∧ bits i < t then min t (bits (i + 1)) else m) m ≤
        (List.range' k n).foldl
          (fun m i => if samples.getLsbD i = false ∧ bits i < u then min u (bits (i + 1)) else m) m' := by
    intro n
    induction n with
    | zero => exact fun _ _ _ _ hle _ => hle
    | succ n ih =>
      intro k m m' hkn hle hbits
      rw [List.range'_succ, List.foldl_cons, List.foldl_cons]
      simp only [bits] at hbits ih h ⊢
      cases samples.getLsbD k with
      | true =>
        simp only [Bool.true_eq_false, false_and, if_false]
        exact ih _ _ _ (by omega) hle (by omega)
      | false =>
        simp only [true_and]
        refine ih _ _ _ (by omega) ?_ ?_
        · split <;> split <;> omega
        · split <;> omega
  exact hfold 10 0 0 0 (Nat.le_refl _) (Nat.le_refl _) (Nat.zero_le _)

/-- R37, R103: RXD has been high for as long as the time since its last low bit ended. -/
theorem highAfter_ge {r : Rxd} {n limit : Nat} (h : r.lowEnd + limit ≤ r.age + n) :
    limit ≤ r.highAfter n := by
  unfold Rxd.lowEnd at h
  unfold Rxd.highAfter
  by_cases hstop : stopLow r.fall.samples = true
  · have hidle : bits 10 ≤ r.idleAt := Nat.le_add_right _ _
    rw [if_pos hstop] at h
    rw [if_pos ⟨hstop, by omega⟩]
    omega
  · have hle := lastLowEnd_mono r.fall.samples (Nat.min_le_right (r.age + n) (bits 10))
    rw [if_neg hstop] at h
    rw [if_neg fun hboth => hstop hboth.1]
    omega

theorem highAfter_timeToExpiry (s : State) : s.listenLimit ≤ s.rxd.highAfter s.timeToExpiry := by
  refine highAfter_ge ?_
  have hle : s.rxd.lowEnd + s.listenLimit - s.rxd.age ≤ s.timeToExpiry := Nat.le_max_right _ _
  omega

/-! ### Founding -/

/-- R104: the schedule, the state and the picture of a founder. -/
theorem foundedPicture_eq (s : State) : s.foundedPicture = { s with
    bus := ⟨true, 0, s.stationNumber, 0, .silent, false, false, none, [], .idle⟩
    frameCheck := ⟨[], [], s.frameCheck.tag, none⟩
    agreement := ⟨stationOnly s.stationNumber, 0, 0, 0, s.agreement.foreignSeen⟩
    controller := { s.controller with state := .member, listenTimer := 0 }
    host := (s.foundedSchedule.setView (stationOnly s.stationNumber)).host
    events := arrive s.events (stateChanged 0 s.stationNumber s.stationNumber .founded .member
      s.controller.failures) } := by
  unfold State.foundedPicture
  rw [setView_eq]
  rfl

theorem settlePosts_unsent {s : State} (h : s.posts.sentPosts = []) : s.settlePosts = s := by
  have hqueued : s.posts.queuedPosts = s.posts.posts :=
    List.filter_eq_self.mpr fun p hp => by
      have hnot := List.filter_eq_nil_iff.mp h p hp
      simpa using hnot
  rw [settlePosts_eq, h, hqueued]
  rfl

/-- R126: with no service and nobody waiting the donor sends no section. -/
theorem donorDecision_none {s : State} (hserving : s.transfer.serving = none)
    (hqueue : s.transfer.joinQueue = []) : s.donorDecision = (s, none) := by
  cases hdonor : noneBelow s.agreement.view s.stationNumber with
  | false => exact donorDecision_notDonor hdonor
  | true => rw [donorDecision_idle hdonor hserving, State.startService, hqueue]

/-- R75, R90, R104: the first evaluation of a founder: a TALLY frame with its oldest QUEUED posts. -/
theorem ownSlotEvaluation_founder {s : State} (hle : s.agreement.dissent ≤ s.agreement.agree)
    (hunsent : s.posts.sentPosts = []) (hleave : s.controller.pendingLeave = false)
    (hserving : s.transfer.serving = none) (hqueue : s.transfer.joinQueue = []) :
    s.ownSlotEvaluation true = { s with
      bus := { s.bus with tx := .built, loopback := [] }
      agreement := { s.agreement with agree := 0, dissent := 0 }
      posts := { s.posts with posts := packPosts s.bus.round 4 s.posts.posts }
      frameCheck := { s.frameCheck with
        transmit := (Frame.tally ⟨s.stationNumber, s.bus.round, s.configTag, s.agreement.view,
          s.agreement.digest, false, (s.posts.queuedPosts.take 4).map Post.contribution,
          none⟩).bytes } } := by
  have hbuilt : s.keepInView true = s.clearCounts.buildTally := by
    unfold State.keepInView
    rw [settlePosts_unsent hunsent]
    exact if_neg (by rw [State.clearFailures, if_pos rfl, State.clearCounts, hleave]; decide)
  rw [ownSlotEvaluation_keeps hle, hbuilt, State.buildTally,
    donorDecision_none (s := s.clearCounts) hserving hqueue]
  rfl

/-- R57, R82, R113, R121, R124: a lawful listener has an empty view, no SENT post, no LEAVE waiting, and
serves nobody. -/
theorem listener_unburdened {s : State} (h : s.Lawful) (hstate : s.controller.state = .listen) :
    s.agreement.view = 0 ∧ s.posts.sentPosts = [] ∧ s.controller.pendingLeave = false ∧
      s.transfer.serving = none ∧ s.transfer.joinQueue = [] := by
  have hne : s.controller.state ≠ .member := by rw [hstate]; decide
  obtain ⟨-, -, -, -, hsent, -⟩ := h.post
  obtain ⟨hpending, -⟩ := h.leave
  obtain ⟨-, -, -, hqueue⟩ := h.join
  have hserving := h.serving
  have hview := h.view
  unfold State.ServingLaw at hserving
  refine ⟨(if_neg hne).mp hview, hsent hne, ?_, ?_, hqueue hne⟩
  · exact Bool.eq_false_iff.mpr fun hleave => hne (hpending hleave)
  · cases hsv : s.transfer.serving with
    | none => rfl
    | some sv =>
      rw [hsv] at hserving
      exact absurd hserving.1 hne

/-- Settles O43: the founder's picture, its watches brought up to date, and its first evaluation. -/
theorem expiryFounds : Obligations.ExpiryFounds := by
  intro s hlaw hstate
  obtain ⟨hview, hunsent, hleave, hserving, hqueue⟩ := listener_unburdened hlaw hstate
  have hqueued : s.posts.queuedPosts = s.posts.posts := by
    obtain ⟨-, -, hsplit, -⟩ := hlaw.post
    rw [hunsent, List.nil_append] at hsplit
    exact hsplit.symm
  have hall : ∀ p ∈ s.posts.posts, p.queued = true := hqueued ▸ queuedPosts_queued s.posts
  have hchanged : stationOnly s.stationNumber ≠ s.agreement.view := by
    intro heq
    have hin := stationIn_only s.stationNumber s.stationNumber
    rw [heq, hview] at hin
    simp [stationIn, stationNumber_lt_of_configLaw hlaw.config] at hin
  have hexec : exec .listenTimerExpiry s =
      .next ((s.passTime s.timeToExpiry).foundedPicture.reevaluateWatches.ownSlotEvaluation true) := by
    rw [← found_eq]
    exact congrArg Host.Outcome.next (if_pos hstate)
  have hlatches := setView_latches (s.passTime s.timeToExpiry).foundedSchedule _ (by exact hchanged)
  have hwatch : (s.passTime s.timeToExpiry).foundedPicture.WatchLaw :=
    ((passTime_endures s _).trans (foundedPicture_endures _)).watch hlaw.watch
  have hlines := upToDate_lines (s.passTime s.timeToExpiry).foundedPicture
  have hentries := upToDate_entries hwatch
  rw [reevaluateWatches_lawful hwatch] at hexec
  rw [foundedPicture_eq] at hexec hentries hlines
  rw [ownSlotEvaluation_founder (by exact Nat.le_refl 0) (by exact hunsent) (by exact hleave)
    (by exact hserving) (by exact hqueue)] at hexec
  refine ⟨_, hexec, rfl, rfl, rfl, rfl, rfl, rfl, hlatches, ?posts, ?frame, hentries, hlines, rfl,
    ?high⟩
  case posts => exact congrArg (PostQueue.mk · s.posts.nextTag) (packPosts_queued 0 4 hall)
  case frame =>
    show FrameCheck.mk [] (Frame.bytes (.tally ⟨_, _, _, _, _, _,
      (s.posts.queuedPosts.take 4).map Post.contribution, _⟩)) _ _ = _
    rw [hqueued]
    rfl
  case high =>
    show s.listenLimit ≤ (s.rxd.later s.timeToExpiry).highAfter 0
    rw [later_highAfter]
    exact highAfter_timeToExpiry s

end Sys2Proof.Machine
end

section
/-! PROOF. The line: how time passes on it, characters and runs as records of what they change (R24, R25, R29
to R31, R35, R37), the own transmission (R34), a whole frame heard, and the unsynchronised listener
(R105). -/

namespace Sys2Proof.Machine

-- One theorem after another: each proof checked beside another takes a thread with memory of its own.
set_option Elab.async false

/-! ### Time -/

theorem lastLowEnd_le_ten (samples : BitVec 10) (t : Nat) : lastLowEnd samples t ≤ bits 10 := by
  have hfold : ∀ n k m, k + n ≤ 10 → m ≤ bits 10 → (List.range' k n).foldl
      (fun m i => if samples.getLsbD i = false ∧ bits i < t then min t (bits (i + 1)) else m) m ≤
        bits 10 := by
    intro n
    induction n with
    | zero => exact fun _ _ _ hle => hle
    | succ n ih =>
      intro k m hkn hle
      rw [List.range'_succ, List.foldl_cons]
      refine ih _ _ (by omega) ?_
      by_cases hlow : samples.getLsbD k = false ∧ bits k < t
      · rw [if_pos hlow]
        exact Nat.le_trans (Nat.min_le_right _ _) (Nat.mul_le_mul_left 16 (by omega))
      · rw [if_neg hlow]
        exact hle
  exact hfold 10 0 0 (Nat.le_refl _) (Nat.zero_le _)

/-- R37: RXD has not been high for longer than before by more than the time that passed. -/
theorem highAfter_add_le (r : Rxd) (m n : Nat) : r.highAfter (m + n) ≤ r.highAfter m + n := by
  have hmono := lastLowEnd_mono r.fall.samples (t := r.age + m) (u := r.age + (m + n)) (by omega)
  have hten := lastLowEnd_le_ten r.fall.samples (r.age + m)
  have hidle : bits 10 ≤ r.idleAt := Nat.le_add_right _ _
  unfold Rxd.highAfter
  split
  · split <;> omega
  · next hnot =>
    rw [if_neg fun h => hnot ⟨h.1, by omega⟩]
    omega

theorem passTime_passTime (s : State) (m n : Nat) :
    (s.passTime m).passTime n = s.passTime (m + n) := by
  have hlisten : (s.passTime m).listenAfter n = s.listenAfter (m + n) := by
    by_cases h : s.controller.state = .listen
    · have hle := highAfter_add_le s.rxd m n
      rw [listenAfter_listen (s := s.passTime m) h, State.passTime_rxd, later_highAfter,
        listenAfter_listen h]
      show min (s.listenAfter m + n) _ = _
      rw [listenAfter_listen h]
      omega
    · rw [listenAfter_of_ne (s := s.passTime m) h, listenAfter_of_ne h]
      exact listenAfter_of_ne h m
  have htimer : (if s.bus.sync then (if s.bus.sync then s.bus.slotTimer + m else s.bus.slotTimer) + n
      else if s.bus.sync then s.bus.slotTimer + m else s.bus.slotTimer) =
      if s.bus.sync then s.bus.slotTimer + (m + n : Nat) else s.bus.slotTimer := by
    split <;> omega
  have hrun : (s.bus.run.map fun r => { r with age := r.age + m }).map
      (fun r => { r with age := r.age + n }) =
      s.bus.run.map fun r => { r with age := r.age + (m + n) } := by
    rw [Option.map_map]
    exact congrArg (Option.map · s.bus.run) (funext fun r => by simp [Nat.add_assoc])
  rw [State.passTime, hlisten]
  show { s with
    bus := { s.bus with slotTimer := _, run := _ }
    controller := _, rxd := (s.rxd.later m).later n } = s.passTime (m + n)
  rw [later_later]
  exact congrArg₂ (fun x y => { s with
    bus := { s.bus with slotTimer := x, run := y }
    controller := { s.controller with listenTimer := s.listenAfter (m + n) }
    rxd := s.rxd.later (m + n) }) htimer hrun

theorem passTime_zero {s : State}
    (h : s.controller.state = .listen → s.controller.listenTimer ≤ s.rxd.highAfter 0) :
    s.passTime 0 = s := by
  have hlisten : s.listenAfter 0 = s.controller.listenTimer := by
    by_cases hstate : s.controller.state = .listen
    · rw [listenAfter_listen hstate]
      exact Nat.min_eq_left (h hstate)
    · exact listenAfter_of_ne hstate 0
  have hrun : (s.bus.run.map fun r => { r with age := r.age + 0 }) = s.bus.run := by
    cases s.bus.run <;> rfl
  rw [State.passTime, hlisten, hrun, Nat.cast_zero, Int.add_zero, ite_self]
  rfl

theorem passTime_synchronised {s : State} (hsync : s.bus.sync = true) (n : Nat) :
    s.passTime n = { s with
      bus := { s.bus with
        slotTimer := s.bus.slotTimer + n
        run := s.bus.run.map fun r => { r with age := r.age + n } }
      controller := { s.controller with listenTimer := s.listenAfter n }
      rxd := s.rxd.later n } := by
  rw [State.passTime, if_pos hsync]

theorem passTime_unsynchronised {s : State} (hsync : s.bus.sync = false) (n : Nat) :
    s.passTime n = { s with
      bus := { s.bus with run := s.bus.run.map fun r => { r with age := r.age + n } }
      controller := { s.controller with listenTimer := s.listenAfter n }
      rxd := s.rxd.later n } := by
  rw [State.passTime, if_neg (ne_true_of_eq_false hsync)]

/-! ### Passive stations -/

/-- R26: outside the schedule and with nothing in progress, time passes on the line only. -/
theorem passTime_resting {s : State} (hsync : s.bus.sync = false) (hrun : s.bus.run = none)
    (hl : s.controller.state ≠ .listen) (n : Nat) :
    s.passTime n = { s with rxd := s.rxd.later n } := by
  rw [passTime_unsynchronised hsync, hrun, listenAfter_of_ne hl]
  show { s with bus := { s.bus with run := none }, rxd := _ } = _
  rw [← hrun]

theorem fallOnRxd_glitch {fall : RxdFall} (h : startBit fall.samples = false) (s : State) (gap : Nat) :
    s.fallOnRxd gap fall = s.passTime (s.timeToGap gap) := if_neg (ne_true_of_eq_false h)

theorem fallOnRxd_passive {s : State} {fall : RxdFall} (h : startBit fall.samples = true)
    (hpassive : s.controller.state.active = false) (gap : Nat) :
    s.fallOnRxd gap fall = (s.passTime (s.timeToGap gap)).noteFall fall :=
  (if_pos h).trans (if_neg (ne_true_of_eq_false hpassive))

theorem fallOnRxd_active {s : State} {fall : RxdFall} (h : startBit fall.samples = true)
    (hactive : s.controller.state.active = true) (gap : Nat) : s.fallOnRxd gap fall =
      ((s.passTime (s.timeToGap gap)).endRunIfOver.noteFall fall).startCharacter fall.samples :=
  (if_pos h).trans (if_pos hactive)

/-- Settles O32: in a passive state no run, no frame and no schedule is there for a command to touch. -/
theorem passiveStationIgnoresTheBus : Obligations.PassiveStationIgnoresTheBus := by
  intro i s hlaw hpassive
  obtain ⟨hrun, htx, -⟩ := hlaw.quiet hpassive
  have hsync : s.bus.sync = false := by
    obtain ⟨-, -, hactive, -⟩ := hlaw.schedule
    exact Bool.eq_false_iff.mpr fun h => by rw [hactive h] at hpassive; cases hpassive
  have hl : s.controller.state ≠ .listen := fun h => by rw [h] at hpassive; cases hpassive
  have hpass := passTime_resting hsync hrun hl
  refine ⟨fun hbus => ?_, fun hpending => ?_⟩
  · have hkept : exec i s = .next s → ∃ x, exec i s = .next { s with rxd := x } ∧
        ((∀ gap fall, i ≠ .busActivity gap fall) → x = s.rxd) :=
      fun h => ⟨s.rxd, h, fun _ => rfl⟩
    cases i with
    | busActivity gap fall =>
      have hfall : ∃ x, s.fallOnRxd gap fall = { s with rxd := x } := by
        cases hstart : startBit fall.samples with
        | false => exact ⟨_, (fallOnRxd_glitch hstart s gap).trans (hpass _)⟩
        | true => rw [fallOnRxd_passive hstart hpassive gap, hpass]; exact ⟨_, rfl⟩
      obtain ⟨x, hx⟩ := hfall
      exact ⟨x, congrArg _ hx, fun h => absurd rfl (h gap fall)⟩
    | runEnd gap => exact hkept (congrArg _ (if_neg (by rw [hpassive]; decide)))
    | slotEnd => exact hkept (congrArg _ (if_neg (by rw [hsync]; decide)))
    | ownTransmissionStart => exact hkept (congrArg _ (if_neg (by rw [htx]; decide)))
    | transmissionEnd => exact hkept (congrArg _ (if_neg (by rw [htx]; decide)))
    | listenTimerExpiry => exact hkept (congrArg _ (if_neg hl))
    | _ => exact Bool.noConfusion hbus
  · have hdue : (s.passTime 1).dueCommands = [] := by
      rw [hpass]
      simp [State.dueCommands, hrun, htx, hsync, hl]
    rw [step_nil hpending, State.tick, hdue, hpass, List.append_nil]

/-! ### The own transmission -/

theorem characterOf_getLsbD (b : Byte) {i : Nat} (h : i < 10) : (characterOf b).getLsbD i =
    (if i = 0 then false else if i = 9 then true else b.getLsbD (i - 1)) := by
  unfold characterOf
  rw [BitVec.getLsbD_append, BitVec.getLsbD_append]
  by_cases h0 : i = 0
  · simp [h0]
  · by_cases h9 : i = 9
    · simp [h9]
    · simp [h0, h9, show ¬ i < 1 by omega, show i - 1 < 8 by omega]

theorem txd_sending {s : State} (htx : s.bus.tx = .sending) : s.txd =
    (match s.frameCheck.transmit[(s.bus.slotTimer - bits 32).toNat / 16 / 10]? with
      | some b => (characterOf b).getLsbD ((s.bus.slotTimer - bits 32).toNat / 16 % 10)
      | none => true) := if_pos htx

theorem passTo_eq {s : State} {reading : Int} (hsync : s.bus.sync = true)
    (hle : s.bus.slotTimer ≤ reading) (hl : s.controller.state ≠ .listen) :
    s.passTo reading = { s with
      bus := { s.bus with
        slotTimer := reading
        run := s.bus.run.map fun r => { r with age := r.age + s.timeToReading reading } }
      rxd := s.rxd.later (s.timeToReading reading) } := by
  have htimer : s.bus.slotTimer + (s.timeToReading reading : Nat) = reading := by
    rw [State.timeToReading, Int.toNat_of_nonneg (by omega)]
    omega
  rw [State.passTo, passTime_synchronised hsync, htimer, listenAfter_of_ne hl]

theorem finishTransmission_plain {s : State} (h : s.controller.leaveAtTxEnd = false) :
    s.finishTransmission = { s.passTo s.transmissionEndsAt with
      bus := { (s.passTo s.transmissionEndsAt).bus with tx := .sent } } :=
  if_neg (show ¬ s.controller.leaveAtTxEnd = true by rw [h]; decide)

theorem finishTransmission_leave {s : State} (h : s.controller.leaveAtTxEnd = true) :
    s.finishTransmission = State.enterStandby { s.passTo s.transmissionEndsAt with
      bus := { (s.passTo s.transmissionEndsAt).bus with tx := .sent } } :=
  if_pos h

/-- Settles O31: the level of TXD by position, and the two commands at their own instants. -/
theorem ownTransmissionOnTheLine : Obligations.OwnTransmissionOnTheLine := by
  intro s j i r b
  refine ⟨fun htx hbyte hi hr htimer => ⟨?de, ?txd⟩, fun htx hsync hle hl => ?start,
    fun htx => congrArg _ (if_neg htx), fun htx hsync hle hl hleave => ?finish,
    fun htx hleave => ?leave, fun htx => ⟨congrArg _ (if_neg htx), ?_, if_neg htx⟩⟩
  case de => exact decide_eq_true htx
  case txd =>
    have hposition : (s.bus.slotTimer - bits 32).toNat / 16 = 10 * j + i := by
      rw [htimer, bits]
      omega
    rw [txd_sending htx, hposition, show (10 * j + i) / 10 = j by omega,
      show (10 * j + i) % 10 = i by omega, hbyte]
    exact characterOf_getLsbD b hi
  case start =>
    refine congrArg Host.Outcome.next ((if_pos htx).trans ?_)
    rw [passTo_eq hsync (by exact hle) hl]
    rfl
  case finish =>
    refine congrArg Host.Outcome.next ((if_pos htx).trans ?_)
    rw [finishTransmission_plain hleave, passTo_eq hsync (by exact hle) hl]
    rfl
  case leave =>
    refine congrArg Host.Outcome.next ((if_pos htx).trans ?_)
    rw [finishTransmission_leave hleave, enterStandby_eq]
    rfl
  · exact decide_eq_false htx

end Sys2Proof.Machine
end

section
/-! PROOF. Characters and runs as records of what they change (R24, R25, R29 to R31, R35, R37); a whole frame
heard in its sender's slot (R53), and the unsynchronised listener (R105). -/

namespace Sys2Proof.Machine

-- One theorem after another: each proof checked beside another takes a thread with memory of its own.
set_option Elab.async false

/-! ### Characters -/

/-- R35: the loopback capture after a character. -/
def capturing (tx : TxPhase) (loopback : List Byte) (b : Byte) : List Byte :=
  if tx ≠ .idle ∧ loopback.length < 93 then loopback ++ [b] else loopback

def State.captured (s : State) (b : Byte) : List Byte := capturing s.bus.tx s.bus.loopback b

/-- R37, R103: the Station Controller after a start bit. -/
def State.restarted (s : State) : Controller :=
  { s.controller with
    listenTimer := if s.controller.state = .listen then 0 else s.controller.listenTimer }

theorem reportActivity_eq (s : State) : s.reportActivity = { s with controller := s.restarted } := by
  unfold State.reportActivity State.restarted
  split <;> rfl

theorem storeCharacter_eq (s : State) (count : Nat) (b : Byte) : s.storeCharacter count b = { s with
    frameCheck := { s.frameCheck with
      receive := if count < 93 then s.frameCheck.receive ++ [b] else s.frameCheck.receive } } := by
  unfold State.storeCharacter
  split <;> rfl

theorem extendRun_eq (s : State) (r : Run) (samples : BitVec 10) : s.extendRun r samples = { s with
    bus := { s.bus with run := some ⟨r.isFrame, r.count + 1, r.lowStop || stopLow samples, r.age⟩ }
    frameCheck := { s.frameCheck with
      receive := if r.isFrame ∧ r.count < 93 then s.frameCheck.receive ++ [dataByte samples]
        else s.frameCheck.receive } } := by
  unfold State.extendRun
  dsimp only
  rw [storeCharacter_eq]
  cases r.isFrame with
  | true => simp only [true_and, if_true]
  | false => simp only [Bool.false_eq_true, false_and, if_false]

/-- R25: a character in a run. -/
theorem startCharacter_run {s : State} {r : Run} (h : s.bus.run = some r) (samples : BitVec 10) :
    s.startCharacter samples = { s with
      bus := { s.bus with
        run := some ⟨r.isFrame, r.count + 1, r.lowStop || stopLow samples, r.age⟩
        loopback := s.captured (dataByte samples) }
      frameCheck := { s.frameCheck with
        receive := if r.isFrame ∧ r.count < 93 then s.frameCheck.receive ++ [dataByte samples]
          else s.frameCheck.receive }
      controller := s.restarted } := by
  have hextends : s.startCharacter samples =
      (State.extendRun { s with controller := s.restarted } r samples).captureCharacter
        (dataByte samples) := by
    unfold State.startCharacter
    simp only [reportActivity_eq, h]
  rw [hextends, captureCharacter_eq, extendRun_eq]
  rfl

theorem startCharacter_begins {s : State} (h : s.bus.run = none) (samples : BitVec 10) :
    s.startCharacter samples =
      (State.beginRun { s with controller := s.restarted } samples).captureCharacter
        (dataByte samples) := by
  unfold State.startCharacter
  simp only [reportActivity_eq, h]

/-- R31: without slots every run is a frame. -/
theorem startCharacter_unsynchronised {s : State} (hsync : s.bus.sync = false)
    (hrun : s.bus.run = none) (samples : BitVec 10) : s.startCharacter samples = { s with
      bus := { s.bus with
        run := some (.beginning true samples), loopback := s.captured (dataByte samples) }
      frameCheck := { s.frameCheck with receive := [dataByte samples] }
      controller := s.restarted } := by
  rw [startCharacter_begins hrun, captureCharacter_eq, State.beginRun,
    if_neg (by exact ne_true_of_eq_false hsync), storeCharacter_eq]
  rfl

/-- R29: the first run of a slot gives the timing verdict. -/
theorem startCharacter_first {s : State} (hsync : s.bus.sync = true) (hrun : s.bus.run = none)
    (hstart : s.bus.start = .silent) (samples : BitVec 10) : s.startCharacter samples = { s with
      bus := { s.bus with
        start := startVerdict s.bus.slotTimer
        run := some (.beginning (startVerdict s.bus.slotTimer).receives samples)
        loopback := s.captured (dataByte samples) }
      frameCheck := { s.frameCheck with
        receive := if (startVerdict s.bus.slotTimer).receives then [dataByte samples]
          else s.frameCheck.receive }
      controller := s.restarted } := by
  rw [startCharacter_begins hrun, captureCharacter_eq, State.beginRun, if_pos (by exact hsync)]
  simp only [hstart, storeCharacter_eq]
  split <;> rfl

/-- R30: a further run of a slot spoils an IN WINDOW frame. -/
theorem startCharacter_further {s : State} (hsync : s.bus.sync = true) (hrun : s.bus.run = none)
    (hstart : s.bus.start ≠ .silent) (samples : BitVec 10) : s.startCharacter samples = { s with
      bus := { s.bus with
        further := s.bus.further || s.bus.start.receives
        run := some (.beginning false samples)
        loopback := s.captured (dataByte samples) }
      controller := s.restarted } := by
  rw [startCharacter_begins hrun, captureCharacter_eq, State.beginRun, if_pos (by exact hsync)]
  split
  · next h => exact absurd h hstart
  all_goals
    next h =>
    have hstart : s.bus.start = _ := h
    simp only [hstart, SlotStart.receives, Bool.or_true, Bool.or_false]
    rfl

/-- A character reaches the Bus Interface's view of the slot, the receive buffer and the listen timer
only. -/
theorem startCharacter_eq (s : State) (samples : BitVec 10) :
    ∃ start further run receive, s.startCharacter samples = { s with
      bus := { s.bus with
        start := start, further := further, run := run, loopback := s.captured (dataByte samples) }
      frameCheck := { s.frameCheck with receive := receive }
      controller := s.restarted } := by
  cases hrun : s.bus.run with
  | some r => exact ⟨_, _, _, _, startCharacter_run hrun samples⟩
  | none =>
    cases hsync : s.bus.sync with
    | false => exact ⟨_, _, _, _, startCharacter_unsynchronised hsync hrun samples⟩
    | true =>
      by_cases hstart : s.bus.start = .silent
      · exact ⟨_, _, _, _, startCharacter_first hsync hrun hstart samples⟩
      · exact ⟨_, _, _, _, startCharacter_further hsync hrun hstart samples⟩

/-! ### Runs that end -/

/-- R42: the verdict of Frame Check on the run in progress. -/
def State.runVerdict (s : State) (r : Run) : Verdict :=
  judgeRun (if s.bus.sync then some s.bus.slot else none) s.stationCount s.configTag r.count r.lowStop
    s.frameCheck.receive

/-- R53: the end of a run in a slot. -/
theorem endRun_synchronised {s : State} {r : Run} (hsync : s.bus.sync = true)
    (h : s.bus.run = some r) : s.endRun = { s with
      bus := { s.bus with run := none }
      frameCheck := { s.frameCheck with
        judged := if r.isFrame then some (s.runVerdict r) else s.frameCheck.judged } } := by
  unfold State.endRun State.runVerdict
  simp only [h, hsync, if_true]
  split <;> rfl

/-- R31, R105: the end of a run outside the slots. -/
theorem endRun_unsynchronised {s : State} {r : Run} (hsync : s.bus.sync = false)
    (h : s.bus.run = some r) (hframe : r.isFrame = true) :
    s.endRun = State.unsynchronisedFrame { s with
      bus := { s.bus with run := none }
      frameCheck := { s.frameCheck with receive := [] } } (s.runVerdict r) r.age := by
  unfold State.endRun State.runVerdict
  simp only [h, hsync, hframe, if_true, Bool.false_eq_true, if_false]

theorem endRun_followed {s : State} {r : Run} (h : s.bus.run = some r) (hframe : r.isFrame = false) :
    s.endRun = { s with bus := { s.bus with run := none } } := by
  unfold State.endRun
  simp only [h, hframe, Bool.false_eq_true, if_false]

theorem endRunIfOver_over {s : State} (h : s.rxd.endsRun = true) : s.endRunIfOver = s.endRun :=
  if_pos h

theorem endRunIfOver_lasting {s : State} (h : s.rxd.endsRun = false) : s.endRunIfOver = s :=
  if_neg (ne_true_of_eq_false h)

theorem endsRun_later (r : Rxd) (n : Nat) : (r.later n).endsRun = decide (r.idleAt + 32 < r.age + n) :=
  rfl

theorem runOver_eq {s : State} {r : Run} (h : s.bus.run = some r) (gap : Nat) :
    s.runOver gap = (s.passTime (s.rxd.idleAt + max gap 33 - s.rxd.age)).endRun := by
  simp only [State.runOver, State.timeToGap, h]
  rfl

theorem exec_runEnd {s : State} {r : Run} (hactive : s.controller.state.active = true)
    (h : s.bus.run = some r) (gap : Nat) : exec (.runEnd gap) s =
      .next (s.passTime (s.rxd.idleAt + max gap 33 - s.rxd.age)).endRun :=
  congrArg _ ((if_pos hactive).trans (runOver_eq h gap))

theorem exec_runEnd_none {s : State} (h : s.bus.run = none) (gap : Nat) :
    exec (.runEnd gap) s = .next s := by
  have hover : s.runOver gap = s := by simp only [State.runOver, h]
  exact congrArg Host.Outcome.next ((congrArg (ite _ · s) hover).trans (ite_self s))

theorem passTime_run {s : State} {r : Run} (h : s.bus.run = some r) (n : Nat) :
    (s.passTime n).bus.run = some { r with age := r.age + n } := by
  show s.bus.run.map _ = _
  rw [h]
  rfl

/-- R25, R27: a run over by the end of its slot may as well end before it. -/
theorem exec_slotEnd_runOver {s : State} {r : Run} (hactive : s.controller.state.active = true)
    (hsync : s.bus.sync = true) (h : s.bus.run = some r) (htx : s.bus.tx ≠ .sending)
    (hover : s.rxdAtSlotEnd.endsRun = true) :
    exec .slotEnd s = execAll [.runEnd 0, .slotEnd] s := by
  have hage : s.rxd.idleAt + 32 < s.rxd.age + s.timeToReading s.slotSixteenths :=
    of_decide_eq_true (endsRun_later s.rxd _ ▸ hover)
  generalize hn : s.timeToReading s.slotSixteenths = n at hage
  obtain ⟨wait, hwait⟩ : ∃ wait, wait = s.rxd.idleAt + max 0 33 - s.rxd.age := ⟨_, rfl⟩
  have hle : wait ≤ n := by omega
  have hrest : (s.passTime wait).endRun.timeToReading s.slotSixteenths = n - wait := by
    rw [endRun_synchronised (s := s.passTime wait) hsync (passTime_run h wait),
      passTime_synchronised hsync, State.timeToReading, ← hn, State.timeToReading]
    dsimp only
    omega
  have hcommute : ∀ k, (s.passTime wait).endRun.passTime k = (s.passTime (wait + k)).endRun := by
    intro k
    rw [← passTime_passTime,
      endRun_synchronised (s := s.passTime wait) hsync (passTime_run h wait),
      endRun_synchronised (s := (s.passTime wait).passTime k) hsync
        (passTime_run (passTime_run h wait) k)]
    rfl
  have hfirst : exec (.runEnd 0) s = .next (s.passTime wait).endRun := by
    rw [exec_runEnd hactive h, hwait]
  have hended : (s.passTime wait).endRun.bus.sync = true ∧
      (s.passTime wait).endRun.bus.tx = s.bus.tx ∧ (s.passTime wait).endRun.bus.run = none ∧
      (s.passTime wait).endRun.slotSixteenths = s.slotSixteenths := by
    rw [endRun_synchronised (s := s.passTime wait) hsync (passTime_run h wait)]
    exact ⟨hsync, rfl, rfl, rfl⟩
  obtain ⟨hsync', htx', hrun', hlength⟩ := hended
  have hsecond := exec_slotEnd_quiet (s.passTime wait).endRun hsync' (htx' ▸ htx) (.inl hrun')
  rw [hlength, State.passTo, hrest, hcommute, Nat.add_sub_cancel' hle] at hsecond
  have hboth : execAll [.runEnd 0, .slotEnd] s = .next (s.passTime n).endRun.slotBoundary := by
    simp only [execAll, hfirst, hsecond]
  rw [hboth, exec_slotEnd, if_pos hsync, State.endSlot, if_neg htx, if_pos hsync, State.passTo, hn,
    endRunIfOver_over (by rw [State.passTime_rxd, ← hn]; exact hover)]

/-! ### A frame sent as characters -/

section
variable (b : Byte)

theorem startBit_characterOf : startBit (characterOf b) = true := by
  rw [startBit, characterOf_getLsbD b (by decide)]
  rfl

theorem stopLow_characterOf : stopLow (characterOf b) = false := by
  rw [stopLow, characterOf_getLsbD b (by decide)]
  rfl

theorem dataByte_characterOf : dataByte (characterOf b) = b := by
  refine BitVec.eq_of_getLsbD_eq fun i hi => ?_
  rw [dataByte, BitVec.getLsbD_extractLsb', characterOf_getLsbD b (by omega), if_neg (by omega),
    if_neg (by omega), Nat.add_sub_cancel_left]
  simp [hi]

end

theorem execAll_cons {i : Instr} {s t : State} (h : exec i s = .next t) (rest : List Instr) :
    execAll (i :: rest) s = execAll rest t := by
  simp only [execAll, h]

theorem execAll_append {before : List Instr} (after : List Instr) {t : State} :
    ∀ {s : State}, execAll before s = .next t → execAll (before ++ after) s = execAll after t := by
  induction before with
  | nil => exact fun h => by cases h; rfl
  | cons i rest ih =>
    intro s h
    obtain ⟨u, hu, -⟩ := everyCommandCompletes i s
    rw [List.cons_append, execAll_cons hu]
    rw [execAll_cons hu] at h
    exact ih h

theorem restarted_passTime (s : State) (n : Nat) : (s.passTime n).restarted = s.restarted := by
  unfold State.restarted
  rw [State.passTime_state]
  split
  · rfl
  · next h => rw [passTime_controller_of_ne h]

/-- R27: the slot timer's reading after some time. -/
def State.timerAfter (s : State) (n : Nat) : Int :=
  if s.bus.sync then s.bus.slotTimer + n else s.bus.slotTimer

/-- R25: the station after the next character of a frame. -/
def State.heardNext (s : State) (r : Run) (b : Byte) : State :=
  { s with
    bus := { s.bus with
      slotTimer := s.timerAfter 160, run := some ⟨true, r.count + 1, false, r.age + 160⟩
      loopback := s.captured b }
    frameCheck := { s.frameCheck with receive := s.frameCheck.receive ++ [b] }
    rxd := ⟨⟨characterOf b, 0⟩, 0⟩
    controller := s.restarted }

/-- R25: the next character of a frame, back to back with the one before it. -/
theorem exec_nextCharacter {s : State} {x : Byte} {count age : Nat}
    (hactive : s.controller.state.active = true) (hrxd : s.rxd = ⟨⟨characterOf x, 0⟩, 0⟩)
    (hrun : s.bus.run = some ⟨true, count, false, age⟩) (hcount : count < 93) (b : Byte) :
    exec (.busActivity 0 ⟨characterOf b, 0⟩) s =
      .next (s.heardNext ⟨true, count, false, age⟩ b) := by
  have hidle : s.rxd.idleAt = 160 := by
    rw [hrxd, Rxd.idleAt, stopLow_characterOf]
    rfl
  have hwait : s.timeToGap 0 = 160 := by
    simp only [State.timeToGap, hrun, hidle]
    rw [hrxd]
    rfl
  have hlasts : (s.passTime 160).rxd.endsRun = false := by
    rw [State.passTime_rxd, endsRun_later, hidle, hrxd]
    rfl
  refine congrArg Host.Outcome.next ?_
  rw [fallOnRxd_active (startBit_characterOf b) hactive, hwait, endRunIfOver_lasting hlasts,
    startCharacter_run (s := (s.passTime 160).noteFall ⟨characterOf b, 0⟩) (passTime_run hrun 160),
    dataByte_characterOf, stopLow_characterOf, if_pos ⟨rfl, hcount⟩]
  have hrestarted : ((s.passTime 160).noteFall ⟨characterOf b, 0⟩).restarted = s.restarted :=
    restarted_passTime s 160
  rw [hrestarted]
  rfl

theorem timerAfter_add (s : State) {t : State} (hsync : t.bus.sync = s.bus.sync) {m : Nat}
    (htimer : t.bus.slotTimer = s.timerAfter m) (n : Nat) : t.timerAfter n = s.timerAfter (m + n) := by
  unfold State.timerAfter at htimer ⊢
  rw [hsync, htimer]
  split <;> omega

/-- R25: the station after the rest of a frame whose last character so far was `x`. -/
def State.heardRest (s : State) (count age : Nat) (x : Byte) (rest : List Byte) : State :=
  { s with
    bus := { s.bus with
      slotTimer := s.timerAfter (160 * rest.length)
      run := some ⟨true, count + rest.length, false, age + 160 * rest.length⟩
      loopback := rest.foldl (capturing s.bus.tx) s.bus.loopback }
    frameCheck := { s.frameCheck with receive := s.frameCheck.receive ++ rest }
    rxd := ⟨⟨characterOf (rest.getLastD x), 0⟩, 0⟩ }

/-- R25: the characters of a frame after its first, back to back. -/
theorem execAll_characters (rest : List Byte) : ∀ {s : State} {x : Byte} {count age : Nat},
    s.controller.state.active = true → s.rxd = ⟨⟨characterOf x, 0⟩, 0⟩ →
    s.bus.run = some ⟨true, count, false, age⟩ → count + rest.length ≤ 93 →
    s.restarted = s.controller →
    execAll (rest.map fun b => .busActivity 0 ⟨characterOf b, 0⟩) s =
      .next (s.heardRest count age x rest) := by
  induction rest with
  | nil =>
    intro s x count age _ hrxd hrun _ _
    have htimer : s.timerAfter 0 = s.bus.slotTimer := by
      unfold State.timerAfter
      split <;> simp
    show Host.Outcome.next s = .next { s with
      bus := { s.bus with slotTimer := s.timerAfter 0, run := _ }
      frameCheck := { s.frameCheck with receive := s.frameCheck.receive ++ [] }
      rxd := ⟨⟨characterOf x, 0⟩, 0⟩ }
    rw [htimer, List.append_nil, ← hrxd]
    show Host.Outcome.next s = .next { s with bus := { s.bus with run := some ⟨true, count, false, age⟩ } }
    rw [← hrun]
  | cons b rest ih =>
    intro s x count age hactive hrxd hrun hcount hquiet
    rw [List.length_cons] at hcount
    have hstate : (s.heardNext ⟨true, count, false, age⟩ b).controller = s.controller := hquiet
    have hstill : (s.heardNext ⟨true, count, false, age⟩ b).restarted =
        (s.heardNext ⟨true, count, false, age⟩ b).controller := by
      rw [State.restarted, hstate]
      exact hquiet
    have htimer := timerAfter_add s (t := s.heardNext ⟨true, count, false, age⟩ b) rfl rfl
      (160 * rest.length)
    have hcounts : count + 1 + rest.length = count + (rest.length + 1) := by omega
    have hages : age + 160 + 160 * rest.length = age + 160 * (rest.length + 1) := by omega
    have htimes : 160 + 160 * rest.length = 160 * (rest.length + 1) := by omega
    rw [List.map_cons, execAll_cons (exec_nextCharacter hactive hrxd hrun (by omega) b),
      ih (count := count + 1) (age := age + 160) (by rw [hstate]; exact hactive) rfl rfl (by omega)
        hstill, State.heardRest, htimer, hcounts, hages, htimes, State.heardRest, List.getLastD_cons,
      List.length_cons]
    show Host.Outcome.next { s with
      bus := _, frameCheck := { s.frameCheck with receive := s.frameCheck.receive ++ [b] ++ rest }
      rxd := _, controller := s.restarted } = _
    rw [List.append_assoc, hquiet]
    rfl

/-- R25: the station at the end of a frame's run, two bit times and a sixteenth after its last stop bit. -/
def State.heardWhole (s : State) (first : Byte) (rest : List Byte) : State :=
  { s with
    bus := { s.bus with
      slotTimer := s.timerAfter (160 * rest.length + 193)
      run := some ⟨true, rest.length + 1, false, 160 * rest.length + 193⟩
      loopback := rest.foldl (capturing s.bus.tx) s.bus.loopback }
    frameCheck := { s.frameCheck with receive := first :: rest }
    rxd := ⟨⟨characterOf (rest.getLastD first), 0⟩, 193⟩
    controller := { s.controller with
      listenTimer := (s.heardRest 1 0 first rest).listenAfter 193 } }

theorem passTime_heardRest {s : State} {first : Byte} (hreceive : s.frameCheck.receive = [first])
    (rest : List Byte) :
    (s.heardRest 1 0 first rest).passTime 193 = s.heardWhole first rest := by
  have htimer : (s.heardRest 1 0 first rest).timerAfter 193 =
      s.timerAfter (160 * rest.length + 193) :=
    timerAfter_add s (t := s.heardRest 1 0 first rest) rfl rfl 193
  unfold State.heardWhole
  rw [← htimer, ← List.singleton_append, ← hreceive, ← Nat.zero_add (160 * rest.length),
    Nat.add_comm rest.length 1]
  rfl

/-- R25: a frame that has begun with its first character, and the end of its run. -/
theorem execAll_frame {s t : State} {first : Byte} {rest : List Byte} {fall : Instr}
    (hfirst : exec fall s = .next t) (hactive : t.controller.state.active = true)
    (hrxd : t.rxd = ⟨⟨characterOf first, 0⟩, 0⟩) (hrun : t.bus.run = some ⟨true, 1, false, 0⟩)
    (hreceive : t.frameCheck.receive = [first]) (hlength : (first :: rest).length ≤ 93)
    (hquiet : t.restarted = t.controller) :
    execAll ((fall :: rest.map fun b => .busActivity 0 ⟨characterOf b, 0⟩) ++ [.runEnd 0]) s =
      .next (t.heardWhole first rest).endRun := by
  rw [List.length_cons] at hlength
  have hcharacters := execAll_characters rest hactive hrxd hrun (by omega) hquiet
  have hwait : (t.heardRest 1 0 first rest).rxd.idleAt + max 0 33 -
      (t.heardRest 1 0 first rest).rxd.age = 193 := by
    show Rxd.idleAt ⟨⟨characterOf (rest.getLastD first), 0⟩, 0⟩ + max 0 33 - 0 = 193
    rw [Rxd.idleAt, stopLow_characterOf]
    rfl
  have hend := exec_runEnd (s := t.heardRest 1 0 first rest) hactive rfl 0
  rw [hwait, passTime_heardRest hreceive] at hend
  rw [List.cons_append, execAll_cons hfirst, execAll_append _ hcharacters, execAll_cons hend]
  rfl

/-! ### The loopback capture of several characters -/

theorem foldl_capturing_idle (bytes loopback : List Byte) :
    bytes.foldl (capturing .idle) loopback = loopback := by
  induction bytes with
  | nil => rfl
  | cons b rest ih => exact ih

theorem foldl_capturing_take {tx : TxPhase} (htx : tx ≠ .idle) (bytes : List Byte) :
    ∀ loopback : List Byte, loopback.length ≤ 93 →
      bytes.foldl (capturing tx) loopback = (loopback ++ bytes).take 93 := by
  induction bytes with
  | nil => exact fun l hl => by rw [List.append_nil, List.take_of_length_le hl]; rfl
  | cons b rest ih =>
    intro l hl
    rw [List.foldl_cons, capturing]
    by_cases hlt : l.length < 93
    · rw [if_pos ⟨htx, hlt⟩, ih _ (by simpa using hlt), List.append_assoc, List.singleton_append]
    · have h93 : l.length = 93 := by omega
      rw [if_neg fun h => hlt h.2, ih l hl, List.take_left' h93, List.take_left' h93]

theorem restarted_of_restarted {s t : State} (h : t.controller = s.restarted) :
    t.restarted = t.controller := by
  rw [State.restarted, h, State.restarted]
  dsimp only
  split <;> rfl

/-! ### A run that begins -/

/-- R24, R29 to R31: the station after a start bit `n` sixteenths from now that begins a run. -/
def State.begun (s : State) (n : Nat) (fall : RxdFall) (start : SlotStart) (further isFrame : Bool) :
    State :=
  { s with
    bus := { s.bus with
      slotTimer := s.timerAfter n, start := start, further := further
      run := some ⟨isFrame, 1, stopLow fall.samples, 0⟩
      loopback := s.captured (dataByte fall.samples) }
    frameCheck := { s.frameCheck with
      receive := if isFrame then [dataByte fall.samples] else s.frameCheck.receive }
    rxd := ⟨fall, 0⟩
    controller := s.restarted }

section
variable {s : State} (hrun : s.bus.run = none) (n : Nat) (fall : RxdFall)
include hrun

theorem passTime_noRun : (s.passTime n).bus.run = none := by
  show s.bus.run.map _ = none
  rw [hrun]
  rfl

theorem character_first (hsync : s.bus.sync = true) (hstart : s.bus.start = .silent) :
    ((s.passTime n).noteFall fall).startCharacter fall.samples =
      s.begun n fall (startVerdict (s.bus.slotTimer + n)) s.bus.further
        (startVerdict (s.bus.slotTimer + n)).receives := by
  have htimer : s.timerAfter n = s.bus.slotTimer + n := if_pos hsync
  have hrestarted : ((s.passTime n).noteFall fall).restarted = s.restarted := restarted_passTime s n
  rw [startCharacter_first (by exact hsync) (by exact passTime_noRun hrun n) (by exact hstart),
    hrestarted, ← htimer]
  rfl

theorem character_further (hsync : s.bus.sync = true) (hstart : s.bus.start ≠ .silent) :
    ((s.passTime n).noteFall fall).startCharacter fall.samples =
      s.begun n fall s.bus.start (s.bus.further || s.bus.start.receives) false := by
  have hrestarted : ((s.passTime n).noteFall fall).restarted = s.restarted := restarted_passTime s n
  rw [startCharacter_further (by exact hsync) (by exact passTime_noRun hrun n) (by exact hstart),
    hrestarted]
  rfl

theorem character_unsynchronised (hsync : s.bus.sync = false) :
    ((s.passTime n).noteFall fall).startCharacter fall.samples =
      s.begun n fall s.bus.start s.bus.further true := by
  have hrestarted : ((s.passTime n).noteFall fall).restarted = s.restarted := restarted_passTime s n
  rw [startCharacter_unsynchronised (by exact hsync) (by exact passTime_noRun hrun n), hrestarted]
  rfl

/-- R24: with no run in progress, a start bit. -/
theorem exec_character (hactive : s.controller.state.active = true)
    (hstart : startBit fall.samples = true) (gap : Nat) : exec (.busActivity gap fall) s =
      .next (((s.passTime (s.rxd.untilHigh + gap)).noteFall fall).startCharacter fall.samples) := by
  have hwait : s.timeToGap gap = s.rxd.untilHigh + gap := by simp only [State.timeToGap, hrun]
  refine congrArg Host.Outcome.next ?_
  rw [fallOnRxd_active hstart hactive, hwait, endRunIfOver_of_none _ (passTime_noRun hrun _)]

end

/-! ### A whole frame in a slot -/

/-- R24, R25: a frame sent as characters that begins a run, and the end of that run. -/
theorem execAll_wholeFrame {s : State} {f : Frame} {first : Byte} {rest : List Byte} {fall : Instr}
    {n : Nat} {start : SlotStart} {further : Bool} (hwf : f.WellFormed)
    (hbytes : f.bytes = first :: rest) (hactive : s.controller.state.active = true)
    (hfirst : exec fall s = .next (s.begun n ⟨characterOf first, 0⟩ start further true)) :
    execAll ((fall :: rest.map fun b => .busActivity 0 ⟨characterOf b, 0⟩) ++ [.runEnd 0]) s =
      .next ((s.begun n ⟨characterOf first, 0⟩ start further true).heardWhole first rest).endRun := by
  refine execAll_frame hfirst hactive rfl ?_ ?_ ?_ (restarted_of_restarted (s := s) rfl)
  · simp only [State.begun, stopLow_characterOf]
  · simp only [State.begun, dataByte_characterOf, if_true]
  · rw [← hbytes, f.bytes_length]
    exact (Frame.length_le hwf).2

theorem startVerdict_window {offset : Int} (hlow : 16 * 16 ≤ offset) (hhigh : offset ≤ 16 * 48) :
    startVerdict offset = .inWindow offset := by
  unfold startVerdict
  rw [if_neg (show ¬ offset < ((bits 16 : Nat) : Int) from Int.not_lt.mpr hlow),
    if_pos (show offset ≤ ((bits 48 : Nat) : Int) from hhigh)]

/-- Settles O30: a frame's characters and the end of its run, and RUN_END of any run. -/
theorem frameOnLineIsHeardIntact : Obligations.FrameOnLineIsHeardIntact := by
  intro s f first rest gap wait r hactive hsync hwait
  refine ⟨fun hwf hbytes hslot hstart hrun hlow hhigh => ?frame, fun hrun => ?ended,
    fun hrun => exec_runEnd_none hrun gap,
    fun hrun htx hover => exec_slotEnd_runOver hactive hsync hrun htx hover⟩
  case ended =>
    rw [exec_runEnd hactive hrun, ← hwait,
      endRun_synchronised (s := s.passTime wait) hsync (passTime_run hrun wait),
      passTime_synchronised hsync]
    unfold State.runVerdict
    simp only [hsync, if_true]
    cases r.isFrame <;> rfl
  case frame =>
    generalize hn : s.rxd.untilHigh + gap = n at hlow hhigh
    have hfirst := exec_character hrun ⟨characterOf first, 0⟩ hactive (startBit_characterOf first) gap
    rw [hn, character_first hrun n _ hsync hstart, startVerdict_window hlow hhigh] at hfirst
    have hexec := execAll_wholeFrame hwf hbytes hactive hfirst
    have hlength : rest.length + 1 = f.length := by rw [← f.bytes_length, hbytes]; rfl
    have hverdict : judgeRun (some s.bus.slot) s.stationCount s.configTag (rest.length + 1) false
        (first :: rest) = .intact f (decide (f.tag = s.configTag)) := by
      rw [hlength, ← hbytes, hslot, judgeRun_bytes_own hwf]
    rw [endRun_synchronised (by exact hsync) (by rfl)] at hexec
    have hloopback : rest.foldl (capturing s.bus.tx) (s.captured (dataByte (characterOf first))) =
        f.bytes.foldl (capturing s.bus.tx) s.bus.loopback := by
      rw [dataByte_characterOf, hbytes]
      rfl
    refine ⟨_, hexec, rfl, rfl, rfl, rfl, rfl, hsync, rfl, fun htx => ?_, fun htx hle => ?_, ?_, rfl, ?_⟩
    · refine hloopback.trans ?_
      rw [htx, foldl_capturing_idle]
    · exact hloopback.trans (foldl_capturing_take htx f.bytes _ hle)
    · refine (congrArg some ?_).trans (congrArg some hverdict)
      unfold State.runVerdict
      exact congrArg (judgeRun · _ _ _ _ _) (if_pos hsync)
    · rw [hbytes, List.getLastD_cons]
      rfl

end Sys2Proof.Machine
end

section
/-! PROOF. The unsynchronised listener (R31, R72, R105): its runs, and what a frame handed to it does. -/

namespace Sys2Proof.Machine

-- One theorem after another: each proof checked beside another takes a thread with memory of its own.
set_option Elab.async false

/-! ### Characters in a run in progress -/

/-- R24: once RXD is high after the latest fall, it is high now. -/
theorem untilHigh_eq_zero {r : Rxd} (h : r.idleAt ≤ r.age) : r.untilHigh = 0 := by
  have hidle : bits 10 ≤ r.idleAt := Nat.le_add_right _ _
  have hnone : [0, 1, 2, 3, 4, 5, 6, 7, 8, 9].find?
      (fun i => r.fall.samples.getLsbD i && decide (r.age < bits (i + 1))) = none := by
    refine List.find?_eq_none.mpr fun i hi => ?_
    have hi : i < 10 := List.mem_range.mp hi
    have hpast : decide (r.age < bits (i + 1)) = false := by
      refine decide_eq_false ?_
      simp only [bits] at hidle ⊢
      omega
    rw [hpast, Bool.and_false]
    exact Bool.false_ne_true
  unfold Rxd.untilHigh
  rw [hnone]
  exact Nat.sub_eq_zero_of_le h

/-- R24, R25: a start bit within 2 bit times of the last character of a run. -/
theorem exec_characterInRun {s : State} {r : Run} {fall : RxdFall} {gap : Nat}
    (hactive : s.controller.state.active = true) (hstart : startBit fall.samples = true)
    (hrun : s.bus.run = some r) (hgap : gap ≤ 32) (hlasting : s.rxd.age ≤ s.rxd.idleAt + 32) :
    exec (.busActivity gap fall) s = .next { s with
      bus := { s.bus with
        slotTimer := s.timerAfter (s.rxd.idleAt + gap - s.rxd.age)
        run := some ⟨r.isFrame, r.count + 1, r.lowStop || stopLow fall.samples,
          r.age + (s.rxd.idleAt + gap - s.rxd.age)⟩
        loopback := s.captured (dataByte fall.samples) }
      frameCheck := { s.frameCheck with
        receive := if r.isFrame ∧ r.count < 93 then s.frameCheck.receive ++ [dataByte fall.samples]
          else s.frameCheck.receive }
      rxd := ⟨fall, 0⟩
      controller := s.restarted } := by
  have hwait : s.timeToGap gap = s.rxd.idleAt + gap - s.rxd.age := by
    simp only [State.timeToGap, hrun]
  generalize hn : s.rxd.idleAt + gap - s.rxd.age = n at hwait ⊢
  have hlasts : (s.passTime n).rxd.endsRun = false := by
    rw [State.passTime_rxd, endsRun_later]
    exact decide_eq_false (by omega)
  have hrestarted : ((s.passTime n).noteFall fall).restarted = s.restarted := restarted_passTime s n
  refine congrArg Host.Outcome.next ?_
  rw [fallOnRxd_active hstart hactive, hwait, endRunIfOver_lasting hlasts,
    startCharacter_run (by exact passTime_run hrun n), hrestarted]
  rfl

/-! ### A frame handed to an unsynchronised listener -/

/-- R105: what a judged frame may reach. -/
theorem unsynchronisedFrame_eq (s : State) (v : Verdict) (age : Nat) :
    ∃ bus frameCheck host seen events waitCount,
      (bus.run = s.bus.run ∧ frameCheck.receive = s.frameCheck.receive) ∧
      s.unsynchronisedFrame v age = { s with
        bus := bus, frameCheck := frameCheck, host := host, events := events
        agreement := { s.agreement with foreignSeen := seen }
        controller := { s.controller with waitCount := waitCount } } := by
  have hkept : ∃ bus frameCheck host seen events waitCount,
      (bus.run = s.bus.run ∧ frameCheck.receive = s.frameCheck.receive) ∧ s = { s with
        bus := bus, frameCheck := frameCheck, host := host, events := events
        agreement := { s.agreement with foreignSeen := seen }
        controller := { s.controller with waitCount := waitCount } } :=
    ⟨_, _, _, _, _, _, ⟨rfl, rfl⟩, rfl⟩
  unfold State.unsynchronisedFrame
  split
  · next f => exact ⟨(s.synchronise f age).bus, (s.synchronise f age).frameCheck, _, _, _, 0,
      ⟨rfl, rfl⟩, rfl⟩
  · exact hkept
  · rw [foreignHeard_eq]
    exact ⟨_, _, _, _, _, _, ⟨rfl, rfl⟩, rfl⟩
  · exact hkept
  · exact hkept

section
variable {s : State} {f : Frame} (hwf : f.WellFormed) (age : Nat)
include hwf

/-- R51, R105: what a whole frame in an unsynchronised listener's buffer is judged to be. -/
def State.listenedTo (s : State) (f : Frame) (age : Nat) : State :=
  s.unsynchronisedFrame
    (judgeRun none s.stationCount s.configTag f.length false f.bytes) age

theorem listenedTo_tally {x : TallyFrame} (hf : f = .tally x) (htag : f.tag = s.configTag)
    (hfits : f.sender < s.stationCount) : s.listenedTo f age = s.synchronise x age := by
  rw [State.listenedTo, judgeRun_bytes_noSlot hwf, if_neg fun h => Nat.not_le.mpr hfits h.2,
    decide_eq_true htag, hf]
  rfl

theorem listenedTo_join {x : JoinFrame} (hf : f = .join x) (htag : f.tag = s.configTag) :
    s.listenedTo f age = s := by
  rw [State.listenedTo, judgeRun_bytes_noSlot hwf, decide_eq_true htag]
  split
  · rfl
  · rw [hf]
    rfl

theorem listenedTo_misfit (htag : f.tag = s.configTag) (hmisfit : s.stationCount ≤ f.sender) :
    s.listenedTo f age = s := by
  rw [State.listenedTo, judgeRun_bytes_noSlot hwf, if_pos ⟨htag, hmisfit⟩]
  rfl

theorem listenedTo_foreign (htag : f.tag ≠ s.configTag) :
    s.listenedTo f age = s.foreignHeard f.sender f.tag := by
  rw [State.listenedTo, judgeRun_bytes_noSlot hwf, if_neg fun h => htag h.1, decide_eq_false htag]
  cases f <;> rfl

end

theorem listenedTo_eq (s : State) (f : Frame) (age : Nat) :
    ∃ bus frameCheck host seen events waitCount,
      (bus.run = s.bus.run ∧ frameCheck.receive = s.frameCheck.receive) ∧
      s.listenedTo f age = { s with
        bus := bus, frameCheck := frameCheck, host := host, events := events
        agreement := { s.agreement with foreignSeen := seen }
        controller := { s.controller with waitCount := waitCount } } :=
  unsynchronisedFrame_eq s _ age

/-- R31: a listener, `n` sixteenths from now, whose run has ended and its buffer been emptied. -/
def State.runClosed (s : State) (n : Nat) : State :=
  { s with
    bus := { s.bus with slotTimer := s.timerAfter n, run := none }
    frameCheck := { s.frameCheck with receive := [] }
    rxd := s.rxd.later n
    controller := { s.controller with listenTimer := s.listenAfter n } }

theorem passTime_endRun_unsynchronised {s : State} {r : Run} (hsync : s.bus.sync = false)
    (hrun : s.bus.run = some r) (hframe : r.isFrame = true) (n : Nat) :
    (s.passTime n).endRun = (s.runClosed n).unsynchronisedFrame
      (judgeRun none s.stationCount s.configTag r.count r.lowStop s.frameCheck.receive) (r.age + n) := by
  have hverdict : (s.passTime n).runVerdict { r with age := r.age + n } =
      judgeRun none s.stationCount s.configTag r.count r.lowStop s.frameCheck.receive :=
    congrArg (judgeRun · _ _ _ _ _) (if_neg (ne_true_of_eq_false hsync))
  rw [endRun_unsynchronised (by exact hsync) (passTime_run hrun n) hframe, hverdict]
  rfl

/-- R25, R31: a run of a listener that is over has ended before the start bit that follows it. -/
theorem exec_character_afterRun {s : State} {r : Run} {fall : RxdFall} {gap : Nat}
    (hstate : s.controller.state = .listen) (hsync : s.bus.sync = false)
    (hstart : startBit fall.samples = true) (hrun : s.bus.run = some r) (hgap : 32 < gap) :
    exec (.busActivity gap fall) s = execAll [.runEnd gap, .busActivity 0 fall] s := by
  have hactive : s.controller.state.active = true := by rw [hstate]; rfl
  have hwait : s.timeToGap gap = s.rxd.idleAt + gap - s.rxd.age := by
    simp only [State.timeToGap, hrun]
  have hfirst := exec_runEnd hactive hrun gap
  rw [Nat.max_eq_left hgap] at hfirst
  generalize hn : s.rxd.idleAt + gap - s.rxd.age = n at hwait hfirst
  have hover : (s.passTime n).rxd.endsRun = true := by
    rw [State.passTime_rxd, endsRun_later]
    exact decide_eq_true (by omega)
  have hended : (s.passTime n).endRun.bus.run = none ∧
      (s.passTime n).endRun.controller.state = .listen ∧
      (s.passTime n).endRun.rxd = s.rxd.later n ∧
      (s.passTime n).endRun.controller.listenTimer = (s.passTime n).controller.listenTimer := by
    by_cases hframe : r.isFrame = true
    · obtain ⟨_, _, _, _, _, _, ⟨hnone, -⟩, hheard⟩ := unsynchronisedFrame_eq { s.passTime n with
        bus := { (s.passTime n).bus with run := none }
        frameCheck := { (s.passTime n).frameCheck with receive := [] } }
        ((s.passTime n).runVerdict { r with age := r.age + n }) (r.age + n)
      rw [endRun_unsynchronised (by exact hsync) (passTime_run hrun n) hframe, hheard]
      exact ⟨hnone, hstate, rfl, rfl⟩
    · rw [endRun_followed (passTime_run hrun n) (Bool.eq_false_iff.mpr hframe)]
      exact ⟨rfl, hstate, rfl, rfl⟩
  obtain ⟨hnone, hlistens, hrxd, htimer⟩ := hended
  have hhigh : (s.passTime n).endRun.rxd.untilHigh = 0 := by
    rw [hrxd]
    exact untilHigh_eq_zero (show s.rxd.idleAt ≤ s.rxd.age + n by omega)
  have hzero : (s.passTime n).endRun.passTime 0 = (s.passTime n).endRun :=
    passTime_zero fun _ => by
      rw [htimer, hrxd]
      exact passTime_listenTimer s n hstate
  have hsecond := exec_character hnone fall (by rw [hlistens]; rfl) hstart 0
  rw [hhigh, Nat.zero_add, hzero] at hsecond
  rw [execAll_cons hfirst, execAll_cons hsecond]
  refine congrArg Host.Outcome.next ?_
  rw [fallOnRxd_active hstart hactive, hwait, endRunIfOver_over hover]

/-- R37, R103: a listener's controller after a start bit. -/
theorem restarted_listen {s : State} (h : s.controller.state = .listen) :
    s.restarted = { s.controller with listenTimer := 0 } := by
  rw [State.restarted, if_pos h]

theorem captured_idle {s : State} (h : s.bus.tx = .idle) (b : Byte) :
    s.captured b = s.bus.loopback := by
  rw [State.captured, h]
  rfl

theorem timerAfter_unsynchronised {s : State} (h : s.bus.sync = false) (n : Nat) :
    s.timerAfter n = s.bus.slotTimer := if_neg (ne_true_of_eq_false h)

/-- R31: a listener that has heard a whole frame, its run ended and its buffer emptied. -/
def State.heardOut (s : State) (n : Nat) (first : Byte) (rest : List Byte) : State :=
  let whole := (s.begun n ⟨characterOf first, 0⟩ s.bus.start s.bus.further true).heardWhole first rest
  { whole with
    bus := { whole.bus with run := none }, frameCheck := { whole.frameCheck with receive := [] } }

theorem heardOut_bus {s : State} (hsync : s.bus.sync = false) (htx : s.bus.tx = .idle)
    (hrun : s.bus.run = none) (n : Nat) (first : Byte) (rest : List Byte) :
    (s.heardOut n first rest).bus = s.bus := by
  have htimer : (s.begun n ⟨characterOf first, 0⟩ s.bus.start s.bus.further true).timerAfter
      (160 * rest.length + 193) = s.bus.slotTimer := by
    rw [timerAfter_unsynchronised (by exact hsync)]
    exact timerAfter_unsynchronised hsync n
  have hloopback : rest.foldl (capturing s.bus.tx) (s.captured (dataByte (characterOf first))) =
      s.bus.loopback := by
    rw [captured_idle htx, htx, foldl_capturing_idle]
  show { s.bus with
    slotTimer := (s.begun n ⟨characterOf first, 0⟩ s.bus.start s.bus.further true).timerAfter
      (160 * rest.length + 193)
    run := none
    loopback := rest.foldl (capturing s.bus.tx) (s.captured (dataByte (characterOf first))) } = s.bus
  rw [htimer, hloopback, ← hrun]

theorem heardWhole_endRun {s : State} {f : Frame} {first : Byte} {rest : List Byte}
    (hsync : s.bus.sync = false) (hbytes : f.bytes = first :: rest) (n : Nat) :
    ((s.begun n ⟨characterOf first, 0⟩ s.bus.start s.bus.further true).heardWhole first rest).endRun =
      (s.heardOut n first rest).listenedTo f (160 * rest.length + 193) := by
  have hlength : rest.length + 1 = f.length := by rw [← f.bytes_length, hbytes]; rfl
  rw [endRun_unsynchronised (by exact hsync) (by rfl) (by rfl), State.listenedTo, ← hlength, hbytes]
  refine congrArg (State.unsynchronisedFrame _ · _) ?_
  exact congrArg (judgeRun · _ _ _ _ _) (if_neg (ne_true_of_eq_false hsync))

/-- Settles O33: the characters of a listener's runs, and what the frame of a run does when it ends. -/
theorem listenerSynchronises : Obligations.ListenerSynchronises := by
  intro s f run gap low wait samples reason first rest hstate hsync hwait
  have hactive : s.controller.state.active = true := by rw [hstate]; rfl
  have hgap : s.timeToGap gap = wait := by
    rw [hwait, State.timeToGap]
    cases s.bus.run <;> rfl
  have hstartBit : samples.getLsbD 0 = false → startBit samples = true := by
    intro h
    rw [startBit, h]
    rfl
  refine ⟨fun hbit => ?glitch, fun hbit htx hrun => ?begins, fun hbit htx hrun hle hage => ?goesOn,
    fun hbit hrun hlt => exec_character_afterRun hstate hsync (hstartBit hbit) hrun hlt,
    fun hrun hframe hbad => ?bad, fun hwf hrun hframe hstop hcount hreceive => ?ends,
    fun hwf hbytes htx hrun => ?whole⟩
  case glitch =>
    refine congrArg Host.Outcome.next ?_
    rw [fallOnRxd_glitch (by rw [startBit, hbit]; rfl), hgap, passTime_unsynchronised hsync,
      listenAfter_listen hstate]
    rfl
  case begins =>
    rw [exec_character hrun ⟨samples, low⟩ hactive (hstartBit hbit),
      character_unsynchronised hrun _ _ hsync, State.begun, timerAfter_unsynchronised hsync,
      captured_idle htx, restarted_listen hstate]
    rfl
  case goesOn =>
    have hn : s.rxd.idleAt + gap - s.rxd.age = wait := by rw [hwait, hrun]
    rw [exec_characterInRun (fall := ⟨samples, low⟩) hactive (hstartBit hbit) hrun hle (by omega),
      timerAfter_unsynchronised hsync, captured_idle htx, restarted_listen hstate, hn]
    rfl
  case bad =>
    have hverdict : ∃ why, judgeRun none s.stationCount s.configTag run.count run.lowStop
        s.frameCheck.receive = .bad why := by
      obtain hlow | hjudged := hbad
      · exact ⟨.framing, by rw [hlow, judgeRun_lowStop]⟩
      · exact ⟨reason, hjudged⟩
    obtain ⟨why, hwhy⟩ := hverdict
    rw [exec_runEnd hactive hrun, passTime_endRun_unsynchronised hsync hrun hframe, hwhy,
      unsynchronisedFrame_bad, State.runClosed, timerAfter_unsynchronised hsync,
      listenAfter_listen hstate]
  case ends =>
    generalize hn : s.rxd.idleAt + max gap 33 - s.rxd.age = n
    have hexec := exec_runEnd hactive hrun gap
    rw [hn, passTime_endRun_unsynchronised hsync hrun hframe, hstop, hcount, hreceive] at hexec
    obtain ⟨_, _, _, _, _, _, ⟨hnone, hempty⟩, hheard⟩ := listenedTo_eq (s.runClosed n) f (run.age + n)
    refine ⟨(s.runClosed n).listenedTo f (run.age + n), hexec, ?shape, ?noRun, ?empty,
      fun hown hfits => ?own, fun hown hmisfit => ?misfit, fun hforeign => ?foreign⟩
    case shape => rw [hheard]; rfl
    case noRun => rw [hheard]; exact hnone
    case empty => rw [hheard]; exact hempty
    case own =>
      cases f with
      | tally x =>
        rw [listenedTo_tally hwf _ rfl (by exact hown) (by exact hfits)]
        exact ⟨rfl, rfl, rfl, fun y hy => by cases hy; exact ⟨rfl, rfl, rfl, rfl, rfl, rfl, rfl, rfl, rfl⟩,
          fun _ h => by cases h⟩
      | join x =>
        rw [listenedTo_join hwf _ rfl (by exact hown)]
        exact ⟨rfl, rfl, rfl, (fun _ h => by cases h), fun _ _ => ⟨hsync, rfl⟩⟩
    case misfit =>
      rw [listenedTo_misfit hwf _ (by exact hown) (by exact hmisfit)]
      exact ⟨hsync, rfl, rfl, rfl⟩
    case foreign =>
      rw [listenedTo_foreign hwf _ (by exact hforeign), foreignHeard_eq]
      exact ⟨hsync, rfl, rfl, rfl⟩
  case whole =>
    have hfirst := exec_character hrun ⟨characterOf first, 0⟩ hactive (startBit_characterOf first) gap
    rw [character_unsynchronised hrun _ _ hsync] at hfirst
    generalize s.rxd.untilHigh + gap = n at hfirst
    have hexec := execAll_wholeFrame hwf hbytes hactive hfirst
    rw [heardWhole_endRun hsync hbytes] at hexec
    have hbus := heardOut_bus hsync htx hrun n first rest
    obtain ⟨_, _, _, _, _, _, ⟨hnone, hempty⟩, hheard⟩ :=
      listenedTo_eq (s.heardOut n first rest) f (160 * rest.length + 193)
    refine ⟨_, hexec, ?frame, ?ended, ?emptied, fun x hf hown hfits => ?matching,
      fun hown hmisfit => ?unfit, fun x hf => ?asking, fun hforeign => ?noted⟩
    case frame =>
      rw [hheard, hbytes, List.getLastD_cons]
      rfl
    case ended => rw [hheard]; exact hnone
    case emptied => rw [hheard]; exact hempty
    case matching =>
      have htimer : ((bits 32 : Nat) : Int) + (160 * rest.length + 193 : Nat) =
          ((16 * (32 + 10 * f.length + 2) + 1 : Nat) : Int) := by
        rw [← f.bytes_length, hbytes, List.length_cons, bits]
        omega
      rw [listenedTo_tally hwf _ hf (by exact hown) (by exact hfits)]
      exact ⟨rfl, rfl, rfl, htimer, rfl, rfl, rfl, by rw [hf]; rfl, rfl⟩
    case unfit =>
      rw [listenedTo_misfit hwf _ (by exact hown) (by exact hmisfit)]
      exact hbus
    case asking =>
      by_cases hown : f.tag = s.configTag
      · rw [listenedTo_join hwf _ hf (by exact hown)]
        exact hbus
      · rw [listenedTo_foreign hwf _ (by exact hown), foreignHeard_eq]
        exact hbus
    case noted =>
      rw [listenedTo_foreign hwf _ (by exact hforeign), foreignHeard_eq]
      exact ⟨hbus, rfl, rfl⟩

end Sys2Proof.Machine
end

section
/-! PROOF. What the donor side of the Transfer Unit keeps in MEMBER (R121, R124): the join queue and the
serving record against the own number and the view, through every operation on them. -/

namespace Sys2Proof.Machine

-- One theorem after another: each proof checked beside another takes a thread with memory of its own.
set_option Elab.async false

/-- R121, R124: the joiners in the queue are others than the station and outside the view, and so is the
one served, whom only the lowest station of the view serves. -/
structure DonorSide (own : Nat) (view : StationSet) (tr : Transfer) : Prop where
  nodup : tr.joinQueue.Nodup
  queue : ∀ n ∈ tr.joinQueue, n < 16 ∧ n ≠ own ∧ stationIn view n = false
  serving : ∀ sv ∈ tr.serving, noneBelow view own = true ∧ sv.joiner < 16 ∧ sv.joiner ≠ own ∧
    stationIn view sv.joiner = false ∧ sv.next % 4 = 0 ∧ sv.next ≤ 28

/-- R52: a transfer section a station may send. -/
def SoundSection (own : Nat) (x : TransferSection) : Prop :=
  x.joiner < 16 ∧ x.joiner ≠ own ∧ x.first % 4 = 0 ∧ x.first ≤ 28

/-- R121: fifteen other stations at most. -/
theorem DonorSide.length_le {own : Nat} {view : StationSet} {tr : Transfer} (h : DonorSide own view tr)
    (hown : own < 16) : tr.joinQueue.length ≤ 15 := by
  have hsub : tr.joinQueue ⊆ (List.range 16).erase own := fun n hn => by
    obtain ⟨hlt, hne, -⟩ := h.queue n hn
    exact (List.mem_erase_of_ne hne).mpr (List.mem_range.mpr hlt)
  have hle := (h.nodup.subperm hsub).length_le
  rw [List.length_erase_of_mem (List.mem_range.mpr hown), List.length_range] at hle
  exact hle

section
variable {own : Nat} {view : StationSet} {tr : Transfer} (h : DonorSide own view tr)
include h

theorem DonorSide.congr {other : Transfer} (hqueue : other.joinQueue = tr.joinQueue)
    (hserving : other.serving = tr.serving) : DonorSide own view other :=
  ⟨hqueue ▸ h.nodup, hqueue ▸ h.queue, hserving ▸ h.serving⟩

/-- R66 to R69: a station removed from the view. -/
theorem DonorSide.remove (n : Nat) : DonorSide own (stationRemove view n) tr := by
  have hout : ∀ m, stationIn view m = false → stationIn (stationRemove view n) m = false := by
    intro m hm
    rw [stationIn_remove, hm]
    rfl
  refine ⟨h.nodup, fun m hm => ?_, fun sv hsv => ?_⟩
  · obtain ⟨hlt, hne, hnot⟩ := h.queue m hm
    exact ⟨hlt, hne, hout m hnot⟩
  · obtain ⟨hlow, hlt, hne, hnot, hrest⟩ := h.serving sv hsv
    exact ⟨(noneBelow_iff _ _).mpr fun m hm => hout m ((noneBelow_iff _ _).mp hlow m hm), hlt, hne,
      hout _ hnot, hrest⟩

/-- R123: a station leaves the queue. -/
theorem DonorSide.unqueue (n : Nat) :
    DonorSide own view { tr with joinQueue := tr.joinQueue.filter (· ≠ n) } :=
  ⟨h.nodup.filter _, fun m hm => h.queue m (List.mem_of_mem_filter hm), h.serving⟩

/-- R122: a station outside the view asks to join. -/
theorem DonorSide.request {n : Nat} (hn : n < 16 ∧ n ≠ own ∧ stationIn view n = false) :
    DonorSide own view { tr with joinQueue :=
      if n ∈ tr.joinQueue then tr.joinQueue else tr.joinQueue ++ [n] } := by
  split
  · exact h.congr rfl rfl
  · next hnew =>
    refine ⟨?_, fun m hm => ?_, h.serving⟩
    · refine List.nodup_append.mpr ⟨h.nodup, List.nodup_singleton n, fun a ha b hb heq => hnew ?_⟩
      rw [← List.mem_singleton.mp hb, ← heq]
      exact ha
    · obtain hm | hm := List.mem_append.mp hm
      · exact h.queue m hm
      · rw [List.mem_singleton.mp hm]
        exact hn

/-- R125: the word of the served joiner's slot. -/
theorem DonorSide.word (n : Nat) (v : Verdict) :
    DonorSide own view { tr with serving := servingAfter tr.serving n v } := by
  refine ⟨h.nodup, h.queue, fun sv hsv => ?_⟩
  obtain ⟨old, hold, rfl⟩ := Option.mem_map.mp hsv
  have hsound := h.serving old hold
  split
  · exact hsound
  · exact hsound

/-- R71, R122, R123, R125: the verdict of the slot of a station outside the view. -/
theorem DonorSide.verdict {n : Nat} (hn : n < 16 ∧ n ≠ own ∧ stationIn view n = false) (v : Verdict) :
    DonorSide own view { tr with
      joinQueue := joinQueueAfter tr.joinQueue n v, serving := servingAfter tr.serving n v } := by
  have hqueue : DonorSide own view { tr with joinQueue := joinQueueAfter tr.joinQueue n v } := by
    unfold joinQueueAfter
    split
    · exact h.request hn
    all_goals exact h.unqueue n
  exact hqueue.word n v

end

/-- R64, R77, R124: an ADMIT. -/
theorem DonorSide.admitted {s : State}
    (h : DonorSide s.stationNumber s.agreement.view s.transfer) (joiner : Nat) :
    DonorSide s.stationNumber (stationAdd s.agreement.view joiner) (s.transferAfterAdmit joiner) := by
  have hout : ∀ m, m ≠ joiner → stationIn s.agreement.view m = false →
      stationIn (stationAdd s.agreement.view joiner) m = false := by
    intro m hne hm
    rw [stationIn_add, hm, decide_eq_false hne]
    rfl
  refine ⟨h.nodup.filter _, fun m hm => ?_, fun sv hsv => ?_⟩
  · obtain ⟨hm, hne⟩ := List.mem_filter.mp hm
    obtain ⟨hlt, hown, hnot⟩ := h.queue m hm
    exact ⟨hlt, hown, hout m (of_decide_eq_true hne) hnot⟩
  · obtain ⟨hsv, hkept⟩ := Option.mem_filter_iff.mp hsv
    obtain ⟨hlow, hlt, hown, hnot, hrest⟩ := h.serving sv hsv
    by_cases hin : stationIn s.agreement.view joiner = true
    · rw [stationAdd_of_in hin]
      exact ⟨hlow, hlt, hown, hnot, hrest⟩
    · rw [Bool.eq_false_iff.mpr hin] at hkept
      simp only [Bool.false_or, Bool.not_eq_true', Bool.or_eq_false_iff, decide_eq_false_iff_not]
        at hkept
      obtain ⟨habove, hother⟩ := hkept
      refine ⟨(noneBelow_iff _ _).mpr fun m hm => hout m (by omega) ((noneBelow_iff _ _).mp hlow m hm),
        hlt, hown, hout _ hother hnot, hrest⟩

/-! ### The donor's decision -/

/-- R124 to R129: a decision that keeps the donor side and sends at most a sound section. -/
def SoundDecision (own : Nat) (view : StationSet) (decided : State × Option TransferSection) : Prop :=
  DonorSide own view decided.1.transfer ∧ ∀ x ∈ decided.2, SoundSection own x

section
variable {s : State} {own : Nat} (h : DonorSide own s.agreement.view s.transfer)
include h

theorem supply_sound {joiner first : Nat} (hlow : noneBelow s.agreement.view own = true)
    (hjoiner : joiner < 16 ∧ joiner ≠ own ∧ stationIn s.agreement.view joiner = false)
    (hfirst : first % 4 = 0 ∧ first ≤ 28) :
    SoundDecision own s.agreement.view (s.supply joiner first) := by
  obtain ⟨hlt, hne, hout⟩ := hjoiner
  obtain ⟨hmod, hle⟩ := hfirst
  refine ⟨⟨h.nodup, h.queue, fun sv hsv => ?_⟩, fun x hx => ?_⟩
  · cases hsv
    refine ⟨hlow, hlt, hne, hout, ?_⟩
    dsimp only
    split <;> omega
  · cases hx
    exact ⟨hlt, hne, hmod, hle⟩

theorem startService_sound (hlow : noneBelow s.agreement.view own = true) :
    SoundDecision own s.agreement.view s.startService := by
  unfold State.startService
  split
  · exact ⟨h, fun _ hx => absurd hx (Option.not_mem_none _)⟩
  · next joiner rest hqueue =>
    exact supply_sound h hlow (h.queue joiner (by rw [hqueue]; exact List.mem_cons_self)) (by decide)

theorem abandon_sound (hlow : noneBelow s.agreement.view own = true) (sv : Serving) (reason : Nat) :
    SoundDecision own s.agreement.view (s.abandon sv reason) := by
  rw [abandon_eq]
  refine startService_sound (s := s.abandoned sv reason) ?_ hlow
  exact ⟨(h.unqueue sv.joiner).nodup, (h.unqueue sv.joiner).queue,
    fun _ hsv => absurd hsv (Option.not_mem_none _)⟩

end

theorem donorDecision_sound {s : State}
    (h : DonorSide s.stationNumber s.agreement.view s.transfer) :
    SoundDecision s.stationNumber s.agreement.view s.donorDecision := by
  have hkept : SoundDecision s.stationNumber s.agreement.view (s, none) :=
    ⟨h, fun _ hx => absurd hx (Option.not_mem_none _)⟩
  cases hlow : noneBelow s.agreement.view s.stationNumber with
  | false => exact donorDecision_notDonor hlow ▸ hkept
  | true =>
    cases hserving : s.transfer.serving with
    | none => exact donorDecision_idle hlow hserving ▸ startService_sound h hlow
    | some sv =>
      obtain ⟨-, hlt, hne, hout, hnext⟩ := h.serving sv hserving
      have hsupply : ∀ first, first % 4 = 0 ∧ first ≤ 28 →
          SoundDecision s.stationNumber s.agreement.view (s.supply sv.joiner first) :=
        fun first hfirst => supply_sound h hlow ⟨hlt, hne, hout⟩ hfirst
      rw [donorDecision_serving hlow hserving]
      unfold State.servingDecision
      split
      · exact hsupply 0 (by decide)
      · split
        · exact hsupply sv.next hnext
        · split
          · exact hsupply 0 (by decide)
          · exact abandon_sound h hlow sv 3
      all_goals exact abandon_sound h hlow sv _

end Sys2Proof.Machine
end

section
/-! PROOF. The order of the post queue (R82): at most sixteen posts with tags of their own, the SENT ones
oldest and at most four, through every operation on the queue. -/

namespace Sys2Proof.Machine

-- One theorem after another: each proof checked beside another takes a thread with memory of its own.
set_option Elab.async false

/-- R82: the law of the queue itself. -/
structure PostQueue.Orderly (q : PostQueue) : Prop where
  length : q.posts.length ≤ 16
  tags : (q.posts.map Post.tag).Nodup
  oldest : q.posts = q.sentPosts ++ q.queuedPosts
  four : q.sentPosts.length ≤ 4

/-- The SENT posts of a queue made of SENT and then QUEUED ones. -/
theorem sentPosts_append {sent queued : List Post} (tag : Byte) (hsent : ∀ p ∈ sent, p.queued = false)
    (hqueued : ∀ p ∈ queued, p.queued = true) :
    (⟨sent ++ queued, tag⟩ : PostQueue).sentPosts = sent := by
  unfold PostQueue.sentPosts
  rw [List.filter_append, List.filter_eq_self.mpr fun p hp => by rw [hsent p hp]; rfl,
    List.filter_eq_nil_iff.mpr fun p hp => by rw [hqueued p hp]; decide, List.append_nil]

theorem queuedPosts_append {sent queued : List Post} (tag : Byte)
    (hsent : ∀ p ∈ sent, p.queued = false) (hqueued : ∀ p ∈ queued, p.queued = true) :
    (⟨sent ++ queued, tag⟩ : PostQueue).queuedPosts = queued := by
  unfold PostQueue.queuedPosts
  rw [List.filter_append, List.filter_eq_nil_iff.mpr fun p hp => by rw [hsent p hp]; decide,
    List.filter_eq_self.mpr hqueued, List.nil_append]

/-- A queue is orderly when it is made of at most four SENT and then QUEUED posts with distinct tags. -/
theorem orderly_append {sent queued : List Post} (tag : Byte) (hsent : ∀ p ∈ sent, p.queued = false)
    (hqueued : ∀ p ∈ queued, p.queued = true) (hfour : sent.length ≤ 4)
    (hlength : (sent ++ queued).length ≤ 16) (htags : ((sent ++ queued).map Post.tag).Nodup) :
    (⟨sent ++ queued, tag⟩ : PostQueue).Orderly :=
  ⟨hlength, htags,
    by rw [sentPosts_append tag hsent hqueued, queuedPosts_append tag hsent hqueued],
    by rw [sentPosts_append tag hsent hqueued]; exact hfour⟩

theorem orderly_empty (tag : Byte) : (⟨[], tag⟩ : PostQueue).Orderly :=
  ⟨Nat.zero_le _, List.nodup_nil, rfl, Nat.zero_le _⟩

theorem sentPosts_sent (q : PostQueue) : ∀ p ∈ q.sentPosts, p.queued = false := fun p hp => by
  have h := (List.mem_filter.mp hp).2
  simpa using h

section
variable {q : PostQueue} (h : q.Orderly)
include h

/-- R92, R93: the SENT posts gone. -/
theorem PostQueue.Orderly.queuedOnly (tag : Byte) :
    (⟨q.queuedPosts, tag⟩ : PostQueue).Orderly :=
  orderly_append tag (sent := []) (fun _ hp => absurd hp List.not_mem_nil) (queuedPosts_queued q)
    (Nat.zero_le _) (Nat.le_trans (List.length_filter_le _ _) h.length)
    (h.tags.sublist ((List.filter_sublist ..).map Post.tag))

/-- R91: results stored. -/
theorem PostQueue.Orderly.stored {g : Post → Post} (hg : StoresResults g) (tag : Byte) :
    (⟨q.posts.map g, tag⟩ : PostQueue).Orderly ∧
      (⟨q.posts.map g, tag⟩ : PostQueue).sentPosts = q.sentPosts.map g := by
  have hsent : ∀ p ∈ q.sentPosts.map g, p.queued = false := fun p hp => by
    obtain ⟨old, hold, rfl⟩ := List.mem_map.mp hp
    rw [(hg old).2]
    exact sentPosts_sent q old hold
  have hqueued : ∀ p ∈ q.queuedPosts.map g, p.queued = true := fun p hp => by
    obtain ⟨old, hold, rfl⟩ := List.mem_map.mp hp
    rw [(hg old).2]
    exact queuedPosts_queued q old hold
  have hsplit : q.posts.map g = q.sentPosts.map g ++ q.queuedPosts.map g := by
    rw [← List.map_append, ← h.oldest]
  have htags : (q.posts.map g).map Post.tag = q.posts.map Post.tag := by
    rw [List.map_map]
    exact List.map_congr_left fun p _ => (hg p).1
  rw [hsplit]
  refine ⟨orderly_append tag hsent hqueued (by rw [List.length_map]; exact h.four) ?_ ?_,
    sentPosts_append tag hsent hqueued⟩
  · rw [← hsplit, List.length_map]
    exact h.length
  · rw [← hsplit, htags]
    exact h.tags

/-- R84, R85: a new post at the tail. -/
theorem PostQueue.Orderly.appended {p : Post} (hp : p.queued = true) (hroom : q.posts.length < 16)
    (hnew : ∀ old ∈ q.posts, old.tag ≠ p.tag) (tag : Byte) :
    (⟨q.posts ++ [p], tag⟩ : PostQueue).Orderly ∧
      (⟨q.posts ++ [p], tag⟩ : PostQueue).sentPosts = q.sentPosts := by
  have hqueued : ∀ x ∈ q.queuedPosts ++ [p], x.queued = true := fun x hx => by
    obtain hx | hx := List.mem_append.mp hx
    · exact queuedPosts_queued q x hx
    · rw [List.mem_singleton.mp hx]
      exact hp
  have hsplit : q.posts ++ [p] = q.sentPosts ++ (q.queuedPosts ++ [p]) := by
    rw [← List.append_assoc, ← h.oldest]
  have hlength : (q.posts ++ [p]).length ≤ 16 := by
    rw [List.length_append, List.length_singleton]
    exact hroom
  have htags : ((q.posts ++ [p]).map Post.tag).Nodup := by
    rw [List.map_append]
    refine List.nodup_append.mpr ⟨h.tags, List.nodup_singleton _, fun a ha b hb heq => ?_⟩
    obtain ⟨old, hold, rfl⟩ := List.mem_map.mp ha
    exact hnew old hold (heq.trans (List.mem_singleton.mp hb))
  rw [hsplit] at hlength htags ⊢
  exact ⟨orderly_append tag (sentPosts_sent q) hqueued h.four hlength htags,
    sentPosts_append tag (sentPosts_sent q) hqueued⟩

/-- R87: a QUEUED post cancelled. -/
theorem PostQueue.Orderly.cancelled {p : Post} (hp : p ∈ q.posts) (hqueued : p.queued = true) :
    (⟨q.posts.filter (·.tag ≠ p.tag), q.nextTag⟩ : PostQueue).Orderly ∧
      (⟨q.posts.filter (·.tag ≠ p.tag), q.nextTag⟩ : PostQueue).sentPosts = q.sentPosts := by
  have hothers : ∀ x ∈ q.posts, x.queued = false → x.tag ≠ p.tag := by
    intro x hx hsent htag
    have hsame : x = p := List.inj_on_of_nodup_map h.tags hx hp htag
    rw [hsame, hqueued] at hsent
    cases hsent
  have hsentKept : q.sentPosts.filter (fun x => decide (x.tag ≠ p.tag)) = q.sentPosts :=
    List.filter_eq_self.mpr fun x hx => decide_eq_true
      (hothers x (List.mem_of_mem_filter hx) (sentPosts_sent q x hx))
  have hstill : ∀ x ∈ q.queuedPosts.filter (fun x => decide (x.tag ≠ p.tag)), x.queued = true :=
    fun x hx => queuedPosts_queued q x (List.mem_of_mem_filter hx)
  have hsplit : q.posts.filter (fun x => decide (x.tag ≠ p.tag)) =
      q.sentPosts ++ q.queuedPosts.filter (fun x => decide (x.tag ≠ p.tag)) := by
    conv_lhs => rw [h.oldest]
    rw [List.filter_append, hsentKept]
  have hsub : (q.posts.filter fun x => decide (x.tag ≠ p.tag)).Sublist q.posts :=
    List.filter_sublist ..
  have hlength := Nat.le_trans hsub.length_le h.length
  have htags := h.tags.sublist (hsub.map Post.tag)
  rw [hsplit] at hlength htags ⊢
  exact ⟨orderly_append _ (sentPosts_sent q) hstill h.four hlength htags,
    sentPosts_append _ (sentPosts_sent q) hstill⟩

/-- R90: of a queue without SENT posts the four oldest become SENT. -/
theorem PostQueue.Orderly.packed (hunsent : q.sentPosts = []) (stamp : Round) (tag : Byte) :
    (⟨packPosts stamp 4 q.posts, tag⟩ : PostQueue).Orderly := by
  have hqueued : ∀ p ∈ q.posts, p.queued = true := by
    have hall := h.oldest
    rw [hunsent, List.nil_append] at hall
    rw [hall]
    exact queuedPosts_queued q
  have htags : ((packPosts stamp 4 q.posts).map Post.tag).Nodup := by
    rw [packPosts_queued stamp 4 hqueued, List.map_append, List.map_map]
    show ((q.posts.take 4).map Post.tag ++ (q.posts.drop 4).map Post.tag).Nodup
    rw [← List.map_append, List.take_append_drop]
    exact h.tags
  have hlength : (packPosts stamp 4 q.posts).length ≤ 16 := by
    rw [packPosts_queued stamp 4 hqueued, List.length_append, List.length_map, ← List.length_append,
      List.take_append_drop]
    exact h.length
  rw [packPosts_queued stamp 4 hqueued] at htags hlength ⊢
  refine orderly_append tag (fun p hp => ?_) (fun p hp => hqueued p (List.mem_of_mem_drop hp)) ?_
    hlength htags
  · obtain ⟨old, -, rfl⟩ := List.mem_map.mp hp
    rfl
  · rw [List.length_map, List.length_take]
    exact Nat.min_le_left _ _

end

theorem sentPosts_queuedOnly (q : PostQueue) (tag : Byte) :
    (⟨q.queuedPosts, tag⟩ : PostQueue).sentPosts = [] :=
  sentPosts_append (sent := []) tag (fun _ hp => absurd hp List.not_mem_nil) (queuedPosts_queued q)

/-- R82: the law of posts, by the order of the queue. -/
theorem postLaw_iff (s : State) : s.PostLaw ↔ s.posts.Orderly ∧
    (s.controller.state ≠ .member → s.posts.sentPosts = []) ∧
    (s.sendsFarewell = true → s.posts.sentPosts = []) := by
  constructor
  · rintro ⟨hlength, htags, hsplit, hfour, houtside, hfarewell⟩
    exact ⟨⟨hlength, htags, hsplit, hfour⟩, houtside, hfarewell⟩
  · rintro ⟨⟨hlength, htags, hsplit, hfour⟩, houtside, hfarewell⟩
    exact ⟨hlength, htags, hsplit, hfour, houtside, hfarewell⟩

end Sys2Proof.Machine
end

section
/-! PROOF. The laws of the station itself, without those of its watches, its event queue and its host port: that
they read only part of the state, how a station that has stopped keeps them, and how one does that stands in
its schedule with nothing supplied to send. -/

namespace Sys2Proof.Machine

-- One theorem after another: each proof checked beside another takes a thread with memory of its own.
set_option Elab.async false

/-- The laws of O54 to O56, O58 and O59 but the host port's. -/
structure State.Sound (s : State) : Prop where
  config : s.ConfigLaw
  failure : s.FailureLaw
  view : s.ViewLaw
  count : s.CountLaw
  post : s.PostLaw
  schedule : s.ScheduleLaw
  quiet : s.QuietLaw
  timer : s.TimerLaw
  leave : s.LeaveLaw
  send : s.SendLaw
  join : s.JoinLaw
  serving : s.ServingLaw
  receiving : s.ReceivingLaw

theorem State.Lawful.sound {s : State} (h : s.Lawful) : s.Sound :=
  ⟨h.config, h.failure, h.view, h.count, h.post, h.schedule, h.quiet, h.timer, h.leave, h.send, h.join,
    h.serving, h.receiving⟩

/-! ### What the laws read -/

/-- The station with nothing but what the laws read, the loopback capture, the listen timer, the run in
progress and the receive buffer aside. -/
def State.core (s : State) : State :=
  { s with
    bus := ⟨s.bus.sync, 0, s.bus.slot, s.bus.round, .silent, false, false, none, [], s.bus.tx⟩
    frameCheck := ⟨[], s.frameCheck.transmit, s.frameCheck.tag, none⟩
    agreement := ⟨s.agreement.view, 0, s.agreement.agree, s.agreement.dissent, 0⟩
    controller := { s.controller with listenTimer := 0 }
    watch := .reset, events := [], host := .reset, resetn := true, rxd := .idle, pending := [] }

/-- A step that leaves what the laws read as it is. -/
theorem State.Sound.steady {s t : State} (hs : s.Sound) (hcore : t.core = s.core)
    (hloopback : t.bus.loopback.length ≤ 93)
    (hlisten : t.controller.state = .listen → t.controller.listenTimer ≤ t.rxd.highAfter 0)
    (hstopped : t.controller.state ≠ .listen → t.controller.listenTimer = 0)
    (hquiet : t.controller.state.active = false → t.bus.run = none ∧ t.frameCheck.receive = []) :
    t.Sound := by
  have hcarry : ∀ {law : State → Prop}, (∀ u : State, law u.core ↔ law u) → law s → law t := by
    intro law hcongr h
    rw [← hcongr, hcore, hcongr]
    exact h
  have hstate : t.controller.state = s.controller.state := congrArg (·.controller.state) hcore
  have htx : t.bus.tx = s.bus.tx := congrArg (·.bus.tx) hcore
  have htransmit : t.frameCheck.transmit = s.frameCheck.transmit :=
    congrArg (·.frameCheck.transmit) hcore
  refine ⟨hcarry (law := State.ConfigLaw) (fun _ => Iff.rfl) hs.config,
    hcarry (law := State.FailureLaw) (fun _ => Iff.rfl) hs.failure,
    hcarry (law := State.ViewLaw) (fun _ => Iff.rfl) hs.view,
    hcarry (law := State.CountLaw) (fun _ => Iff.rfl) hs.count,
    hcarry (law := State.PostLaw) (fun _ => Iff.rfl) hs.post,
    hcarry (law := State.ScheduleLaw) (fun _ => Iff.rfl) hs.schedule,
    fun hpassive => ?quiet, ?timer,
    hcarry (law := State.LeaveLaw) (fun _ => Iff.rfl) hs.leave, ⟨hloopback, ?send⟩,
    hcarry (law := State.JoinLaw) (fun _ => Iff.rfl) hs.join,
    hcarry (law := State.ServingLaw) (fun _ => Iff.rfl) hs.serving,
    hcarry (law := State.ReceivingLaw) (fun _ => Iff.rfl) hs.receiving⟩
  case quiet =>
    obtain ⟨hrun, hreceive⟩ := hquiet hpassive
    have hl : t.controller.state ≠ .listen := fun h => by rw [h] at hpassive; cases hpassive
    obtain ⟨-, hidle, -, hempty, -, hwait, hjoin⟩ := hs.quiet (hstate ▸ hpassive)
    exact ⟨hrun, htx.trans hidle, hreceive, htransmit.trans hempty, hstopped hl,
      (congrArg (·.controller.waitCount) hcore).trans hwait,
      (congrArg (·.controller.joinTimer) hcore).trans hjoin⟩
  case timer =>
    refine ⟨hlisten, hstopped, ?_⟩
    exact hcarry (law := fun u => (u.controller.state ≠ .joining → u.controller.joinTimer = 0) ∧
      u.controller.joinTimer ≤ 8 ∧ u.controller.waitCount ≤ u.stationCount) (fun _ => Iff.rfl)
      hs.timer.2.2
  case send =>
    exact hcarry (law := fun u => (u.bus.tx = .idle ↔ u.frameCheck.transmit = []) ∧
      (u.bus.tx ≠ .idle → u.bus.sync = true ∧ u.bus.slot = u.stationNumber ∧
        (readFrame u.frameCheck.transmit).map u.ownFrame = some true)) (fun _ => Iff.rfl) hs.send.2

/-- A step that reaches neither the line nor anything else the laws read. -/
theorem State.Sound.beside {s t : State} (hs : s.Sound) (hcore : t.core = s.core)
    (hbus : t.bus = s.bus) (hreceive : t.frameCheck.receive = s.frameCheck.receive)
    (hcontroller : t.controller = s.controller) (hrxd : t.rxd = s.rxd) : t.Sound := by
  obtain ⟨hloopback, -⟩ := hs.send
  obtain ⟨hlisten, hstopped, -⟩ := hs.timer
  refine hs.steady hcore (hbus ▸ hloopback) (by rw [hcontroller, hrxd]; exact hlisten)
    (by rw [hcontroller]; exact hstopped) fun hpassive => ?_
  obtain ⟨hrun, -, hempty, -⟩ := hs.quiet (hcontroller ▸ hpassive)
  exact ⟨hbus ▸ hrun, hreceive.trans hempty⟩

/-! ### A station that holds a configuration -/

/-- R168, R169: a configuration in range, with its tag. -/
def State.Configured (s : State) : Prop :=
  ∃ c, s.config = some c ∧ c.InRange ∧ s.frameCheck.tag = some (configTagOf c)

theorem configured_of_configLaw {s : State} (h : s.ConfigLaw)
    (hstate : s.controller.state ≠ .unconfigured) : s.Configured := by
  unfold State.ConfigLaw at h
  cases hconfig : s.config with
  | none =>
    rw [hconfig] at h
    obtain ⟨-, hnone, -⟩ := h
    exact absurd hnone hstate
  | some c =>
    rw [hconfig] at h
    obtain ⟨hrange, htag, -⟩ := h
    exact ⟨c, hconfig, hrange, htag⟩

theorem State.Configured.configLaw {s : State} (h : s.Configured)
    (hstate : s.controller.state ≠ .unconfigured) : s.ConfigLaw := by
  obtain ⟨c, hconfig, hrange, htag⟩ := h
  unfold State.ConfigLaw
  rw [hconfig]
  exact ⟨hrange, htag, hstate⟩

theorem State.Configured.congr {s t : State} (h : s.Configured) (hconfig : t.config = s.config)
    (htag : t.frameCheck.tag = s.frameCheck.tag) : t.Configured := by
  unfold State.Configured
  rw [hconfig, htag]
  exact h

/-- R168: at least two stations, the own among them, sixteen at most. -/
theorem State.Configured.counts {s : State} (h : s.Configured) :
    2 ≤ s.stationCount ∧ s.stationCount ≤ 16 ∧ s.stationNumber < s.stationCount := by
  obtain ⟨c, hconfig, ⟨h2, h16, hstation, -⟩, -⟩ := h
  unfold State.stationCount State.stationNumber
  rw [hconfig]
  exact ⟨h2, h16, hstation⟩

/-! ### A station outside the view -/

/-- R57, R58, R82, R113, R121, R124: outside MEMBER there is no view, no count, no SENT post, no LEAVE waiting,
no joiner. -/
structure State.Outsider (s : State) : Prop where
  view : s.agreement.view = 0
  agree : s.agreement.agree = 0
  dissent : s.agreement.dissent = 0
  unsent : s.posts.sentPosts = []
  pending : s.controller.pendingLeave = false
  queue : s.transfer.joinQueue = []
  serving : s.transfer.serving = none

theorem outsider_of_laws {s : State} (hm : s.controller.state ≠ .member) (hview : s.ViewLaw)
    (hcount : s.agreement.agree = 0 ∧ s.agreement.dissent = 0) (hunsent : s.posts.sentPosts = [])
    (hpending : s.controller.pendingLeave = true → s.controller.state = .member) (hjoin : s.JoinLaw)
    (hserving : s.ServingLaw) : s.Outsider := by
  obtain ⟨hagree, hdissent⟩ := hcount
  obtain ⟨-, -, -, hqueue⟩ := hjoin
  refine ⟨(if_neg hm).mp hview, hagree, hdissent, hunsent,
    Bool.eq_false_iff.mpr fun h => hm (hpending h), hqueue hm, ?_⟩
  unfold State.ServingLaw at hserving
  cases hsv : s.transfer.serving with
  | none => rfl
  | some sv =>
    rw [hsv] at hserving
    exact absurd hserving.1 hm

theorem State.Sound.outsider {s : State} (hs : s.Sound) (hm : s.controller.state ≠ .member) :
    s.Outsider := by
  obtain ⟨-, hunsent, -⟩ := (postLaw_iff s).mp hs.post
  obtain ⟨hpending, -⟩ := hs.leave
  exact outsider_of_laws hm hs.view ((if_neg hm).mp hs.count) (hunsent hm) hpending hs.join hs.serving

/-! ### A station that has stopped -/

/-- R26, R57, R82, R112 to R116, R120: a configured station outside the schedule, nothing in progress and
nothing waiting but QUEUED posts. -/
structure State.Stopped (s : State) : Prop where
  configured : s.Configured
  state : s.controller.state = .listen ∨ s.controller.state = .ready ∨
    s.controller.state = .standby ∨ s.controller.state = .halted
  failure : s.FailureLaw
  controller : s.controller = ⟨s.controller.state, s.controller.failures, 0, 0, 0, false, false⟩
  orderly : s.posts.Orderly
  unsent : s.posts.sentPosts = []
  slot : s.bus.slot < 16
  sync : s.bus.sync = false
  tx : s.bus.tx = .idle
  run : s.bus.run = none
  loopback : s.bus.loopback.length ≤ 93
  receive : s.frameCheck.receive = []
  transmit : s.frameCheck.transmit = []
  view : s.agreement.view = 0
  agree : s.agreement.agree = 0
  dissent : s.agreement.dissent = 0
  transfer : s.transfer = ⟨[], none, none⟩

theorem State.Stopped.sound {s : State} (h : s.Stopped) : s.Sound := by
  have hne : s.controller.state ≠ .member ∧ s.controller.state ≠ .joining ∧
      s.controller.state ≠ .receiving ∧ s.controller.state ≠ .unconfigured := by
    obtain hstate | hstate | hstate | hstate := h.state <;> rw [hstate] <;> decide
  obtain ⟨hmember, hjoining, hreceiving, hconfigured⟩ := hne
  have hlistenTimer : s.controller.listenTimer = 0 := by rw [h.controller]
  have hwaitCount : s.controller.waitCount = 0 := by rw [h.controller]
  have hjoinTimer : s.controller.joinTimer = 0 := by rw [h.controller]
  have hpending : s.controller.pendingLeave = false := by rw [h.controller]
  have hatEnd : s.controller.leaveAtTxEnd = false := by rw [h.controller]
  refine
    { config := h.configured.configLaw hconfigured
      failure := h.failure
      view := (if_neg hmember).mpr h.view
      count := (if_neg hmember).mpr ⟨h.agree, h.dissent⟩
      post := (postLaw_iff s).mpr ⟨h.orderly, fun _ => h.unsent, fun _ => h.unsent⟩
      schedule := ⟨h.slot, fun hsync => ?_, fun hsync => ?_, fun hstate => ?_⟩
      quiet := fun _ => ⟨h.run, h.tx, h.receive, h.transmit, hlistenTimer, hwaitCount, hjoinTimer⟩
      timer := ⟨fun _ => ?_, fun _ => hlistenTimer, fun _ => hjoinTimer, ?_, ?_⟩
      leave := ⟨fun hleave => ?_, fun hleave => ?_⟩
      send := ⟨h.loopback, ⟨fun _ => h.transmit, fun _ => h.tx⟩, fun htx => absurd h.tx htx⟩
      join := ?_
      serving := ?_
      receiving := ?_ }
  · rw [h.sync] at hsync; cases hsync
  · rw [h.sync] at hsync; cases hsync
  · obtain hstate | hstate | hstate := hstate
    · exact absurd hstate hjoining
    · exact absurd hstate hreceiving
    · exact absurd hstate hmember
  · rw [hlistenTimer]; exact Nat.zero_le _
  · rw [hjoinTimer]; exact Nat.zero_le _
  · rw [hwaitCount]; exact Nat.zero_le _
  · rw [hpending] at hleave; cases hleave
  · rw [hatEnd] at hleave; cases hleave
  · unfold State.JoinLaw
    rw [h.transfer]
    exact ⟨Nat.zero_le _, List.nodup_nil, fun _ hn => absurd hn List.not_mem_nil, fun _ => rfl⟩
  · unfold State.ServingLaw
    rw [h.transfer]
    exact trivial
  · unfold State.ReceivingLaw
    rw [h.transfer]
    exact hreceiving

/-- R28: a station outside the schedule keeps the laws whatever numbers it keeps. -/
theorem State.Sound.renumbered {s : State} (hs : s.Sound) (hsync : s.bus.sync = false) {slot : Nat}
    (hslot : slot < 16) (round : Round) :
    State.Sound { s with bus := { s.bus with slot := slot, round := round } } := by
  obtain ⟨-, -, hactive, hscheduled⟩ := hs.schedule
  obtain ⟨hloopback, hidle, hsends⟩ := hs.send
  have hmember : s.controller.state ≠ .member := fun h => by
    rw [hscheduled (.inr (.inr h))] at hsync
    cases hsync
  refine { hs with
    count := (if_neg hmember).mpr ((if_neg hmember).mp hs.count)
    post := hs.post
    schedule := ⟨hslot, fun h => ?_, hactive, hscheduled⟩
    send := ⟨hloopback, hidle, fun htx => ?_⟩ }
  · exact absurd h (ne_true_of_eq_false hsync)
  · exact absurd (hsends htx).1 (ne_true_of_eq_false hsync)

/-! ### A station in its schedule with nothing supplied to send -/

/-- The laws of an active station in the schedule apart from what it sends, with a bound on the counts. -/
structure State.Poised (s : State) (bound : Nat) : Prop where
  configured : s.Configured
  failure : s.FailureLaw
  view : s.ViewLaw
  count : if s.controller.state = .member then s.agreement.agree + s.agreement.dissent ≤ bound
    else s.agreement.agree = 0 ∧ s.agreement.dissent = 0
  orderly : s.posts.Orderly
  unsent : s.controller.state ≠ .member → s.posts.sentPosts = []
  sync : s.bus.sync = true
  slot : s.bus.slot < s.stationCount
  active : s.controller.state.active = true
  timer : s.TimerLaw
  pendingLeave : s.controller.pendingLeave = true → s.controller.state = .member
  leaveAtTxEnd : s.controller.leaveAtTxEnd = false
  join : s.JoinLaw
  serving : s.ServingLaw
  receiving : s.ReceivingLaw

theorem State.Sound.poised {s : State} (hs : s.Sound) (hsync : s.bus.sync = true)
    (htx : s.bus.tx ≠ .sending) : s.Poised s.slotsSinceOwn := by
  obtain ⟨-, hslot, hactive, -⟩ := hs.schedule
  obtain ⟨horderly, hunsent, -⟩ := (postLaw_iff s).mp hs.post
  obtain ⟨hpending, hatEnd⟩ := hs.leave
  have hconfigured : s.controller.state ≠ .unconfigured := fun h => by
    have := hactive hsync
    rw [h] at this
    cases this
  exact ⟨configured_of_configLaw hs.config hconfigured, hs.failure, hs.view, hs.count, horderly, hunsent,
    hsync, hslot hsync, hactive hsync, hs.timer, hpending,
    Bool.eq_false_iff.mpr fun h => htx (hatEnd h).2, hs.join, hs.serving, hs.receiving⟩

/-- What of the station `Poised` reads. -/
def State.placed (s : State) : State :=
  { s with
    bus := ⟨s.bus.sync, 0, s.bus.slot, 0, .silent, false, false, none, [], .idle⟩
    frameCheck := ⟨[], [], s.frameCheck.tag, none⟩
    agreement := ⟨s.agreement.view, 0, s.agreement.agree, s.agreement.dissent, 0⟩
    cells := Vector.replicate 32 Cell.initial
    watch := .reset, events := [], host := .reset, resetn := true, pending := [] }

theorem poised_placed (s : State) (bound : Nat) : s.placed.Poised bound ↔ s.Poised bound :=
  ⟨fun ⟨h1, h2, h3, h4, h5, h6, h7, h8, h9, h10, h11, h12, h13, h14, h15⟩ =>
      ⟨h1, h2, h3, h4, h5, h6, h7, h8, h9, h10, h11, h12, h13, h14, h15⟩,
    fun ⟨h1, h2, h3, h4, h5, h6, h7, h8, h9, h10, h11, h12, h13, h14, h15⟩ =>
      ⟨h1, h2, h3, h4, h5, h6, h7, h8, h9, h10, h11, h12, h13, h14, h15⟩⟩

theorem State.Poised.stays {s t : State} {bound : Nat} (hs : s.Poised bound)
    (h : t.placed = s.placed) : t.Poised bound := by
  rw [← poised_placed, h, poised_placed]
  exact hs

theorem State.Poised.mono {s : State} {bound larger : Nat} (hs : s.Poised bound)
    (hle : bound ≤ larger) : s.Poised larger := by
  have hcount := hs.count
  refine { hs with count := ?_ }
  split
  · next h =>
    rw [if_pos h] at hcount
    omega
  · next h =>
    rw [if_neg h] at hcount
    exact hcount

/-- A poised station keeps the laws while no frame is supplied and its counts fit its slot. -/
theorem State.Poised.sound {s : State} {bound : Nat} (hs : s.Poised bound)
    (hbound : s.controller.state = .member → bound ≤ s.slotsSinceOwn) (htx : s.bus.tx = .idle)
    (htransmit : s.frameCheck.transmit = []) (hloopback : s.bus.loopback.length ≤ 93) : s.Sound := by
  have hconfigured : s.controller.state ≠ .unconfigured := fun h => by
    have := hs.active
    rw [h] at this
    cases this
  obtain ⟨-, h16, -⟩ := hs.configured.counts
  have hcount := hs.count
  have hnoFarewell : s.sendsFarewell = false := by
    unfold State.sendsFarewell
    rw [htransmit]
    rfl
  refine
    { config := hs.configured.configLaw hconfigured
      failure := hs.failure
      view := hs.view
      count := ?_
      post := (postLaw_iff s).mpr ⟨hs.orderly, hs.unsent, fun h => ?_⟩
      schedule := ⟨Nat.lt_of_lt_of_le hs.slot h16, fun _ => hs.slot, fun _ => hs.active,
        fun _ => hs.sync⟩
      quiet := fun h => ?_
      timer := hs.timer
      leave := ⟨hs.pendingLeave, fun h => ?_⟩
      send := ⟨hloopback, ⟨fun _ => htransmit, fun _ => htx⟩,
        fun h => absurd htx h⟩
      join := hs.join
      serving := hs.serving
      receiving := hs.receiving }
  · unfold State.CountLaw
    split
    · next h =>
      rw [if_pos h] at hcount
      have := hbound h
      omega
    · next h =>
      rw [if_neg h] at hcount
      exact hcount
  · rw [hnoFarewell] at h; cases h
  · rw [hs.active] at h; cases h
  · rw [hs.leaveAtTxEnd] at h; cases h

end Sys2Proof.Machine
end

section
/-! PROOF. What the judgement of a slot makes of a lawful station (R62 to R78, R106, R109, R110, R132 to R134):
it is poised for the next slot, or it has stopped. -/

namespace Sys2Proof.Machine

-- One theorem after another: each proof checked beside another takes a thread with memory of its own.
set_option Elab.async false

/-! ### Facts about a poised station -/

section
variable {s : State} {bound : Nat} (hs : s.Poised bound)
include hs

theorem State.Poised.number_lt : s.stationNumber < 16 := by
  obtain ⟨-, h16, hlt⟩ := hs.configured.counts
  exact Nat.lt_of_lt_of_le hlt h16

theorem State.Poised.slot_lt : s.bus.slot < 16 := by
  obtain ⟨-, h16, -⟩ := hs.configured.counts
  exact Nat.lt_of_lt_of_le hs.slot h16

/-- R115: an active station has failed less than eight times. -/
theorem State.Poised.failures_lt : s.controller.failures < 8 := by
  obtain ⟨hle, hiff⟩ := hs.failure
  refine Nat.lt_of_le_of_ne hle fun h8 => ?_
  have hactive := hs.active
  rw [hiff.mp h8] at hactive
  cases hactive

theorem State.Poised.outsider (hm : s.controller.state ≠ .member) : s.Outsider :=
  outsider_of_laws hm hs.view ((if_neg hm).mp hs.count) (hs.unsent hm) hs.pendingLeave hs.join hs.serving

theorem State.Poised.notReceiving (hr : s.controller.state ≠ .receiving) :
    s.transfer.receiving = none := by
  have hreceiving := hs.receiving
  unfold State.ReceivingLaw at hreceiving
  cases h : s.transfer.receiving with
  | none => rfl
  | some r =>
    rw [h] at hreceiving
    exact absurd hreceiving.1 hr

theorem State.Poised.donorSide :
    DonorSide s.stationNumber s.agreement.view s.transfer := by
  obtain ⟨-, hnodup, hqueue, -⟩ := hs.join
  have hserving := hs.serving
  refine ⟨hnodup, hqueue, fun sv hsv => ?_⟩
  unfold State.ServingLaw at hserving
  rw [Option.mem_def.mp hsv] at hserving
  exact hserving.2

theorem State.Poised.listenTimer (hl : s.controller.state ≠ .listen) :
    s.controller.listenTimer = 0 := by
  obtain ⟨-, hstopped, -⟩ := hs.timer
  exact hstopped hl

end

/-! ### A poised station that goes on -/

/-- A station outside the view that goes on as a joiner. -/
theorem State.Poised.outside {s t : State} {bound failures listenTimer joinTimer : Nat}
    {st : StationState} (hs : s.Poised bound) (hm : s.controller.state ≠ .member)
    (hst : st = .joining ∨ st = .receiving) (hstopped : listenTimer = 0)
    (hplaced : t.placed = { s.placed with
      controller := { s.controller with
        state := st, failures := failures, listenTimer := listenTimer, joinTimer := joinTimer }
      transfer := { s.transfer with receiving := t.transfer.receiving } })
    (hfailures : failures < 8) (hjoin : (st ≠ .joining → joinTimer = 0) ∧ joinTimer ≤ 8)
    (hreceiving : match t.transfer.receiving with
      | none => st ≠ .receiving
      | some r => st = .receiving ∧ r.next % 4 = 0 ∧ 4 ≤ r.next ∧ r.next ≤ 28) : t.Poised bound := by
  obtain ⟨hview, hagree, hdissent, hunsent, hpending, hqueue, hserving⟩ := hs.outsider hm
  obtain ⟨-, -, -, -, hwait⟩ := hs.timer
  have hne : st ≠ .member ∧ st ≠ .listen ∧ st ≠ .halted ∧ st.active = true := by
    obtain rfl | rfl := hst <;> decide
  obtain ⟨hmember, hlisten, hhalted, hactive⟩ := hne
  rw [← poised_placed, hplaced]
  refine
    { configured := hs.configured
      failure := ⟨Nat.le_of_lt hfailures, fun h => absurd h (Nat.ne_of_lt hfailures),
        fun h => absurd h hhalted⟩
      view := (if_neg hmember).mpr hview
      count := (if_neg hmember).mpr ⟨hagree, hdissent⟩
      orderly := hs.orderly
      unsent := fun _ => hunsent
      sync := hs.sync
      slot := hs.slot
      active := hactive
      timer := ⟨fun h => absurd h hlisten, fun _ => hstopped, hjoin.1, hjoin.2, hwait⟩
      pendingLeave := fun h => absurd h (ne_true_of_eq_false hpending)
      leaveAtTxEnd := hs.leaveAtTxEnd
      join := ?_
      serving := ?_
      receiving := hreceiving }
  · unfold State.JoinLaw
    dsimp only
    rw [hqueue]
    exact ⟨Nat.zero_le _, List.nodup_nil, fun _ hn => absurd hn List.not_mem_nil, fun _ => rfl⟩
  · unfold State.ServingLaw
    dsimp only
    rw [hserving]
    exact trivial

/-- A member that goes on as a member. -/
theorem State.Poised.inside {s t : State} {bound newBound agree dissent : Nat} {view : StationSet}
    (hs : s.Poised bound) (hm : s.controller.state = .member)
    (hplaced : t.placed = { s.placed with
      agreement := ⟨view, 0, agree, dissent, 0⟩, posts := t.posts, transfer := t.transfer })
    (hreceiving : t.transfer.receiving = s.transfer.receiving)
    (hown : stationIn view s.stationNumber = true) (hcount : agree + dissent ≤ newBound)
    (hdonor : DonorSide s.stationNumber view t.transfer) (horderly : t.posts.Orderly) :
    t.Poised newBound := by
  rw [← poised_placed, hplaced]
  refine
    { configured := hs.configured
      failure := hs.failure
      view := (if_pos hm).mpr hown
      count := (if_pos hm).mpr hcount
      orderly := horderly
      unsent := fun h => absurd hm h
      sync := hs.sync
      slot := hs.slot
      active := hs.active
      timer := hs.timer
      pendingLeave := hs.pendingLeave
      leaveAtTxEnd := hs.leaveAtTxEnd
      join := ⟨hdonor.length_le hs.number_lt, hdonor.nodup, hdonor.queue, fun h => absurd hm h⟩
      serving := ?_
      receiving := ?_ }
  · unfold State.ServingLaw
    dsimp only
    split
    · exact trivial
    · next sv hsv => exact ⟨hm, hdonor.serving sv hsv⟩
  · unfold State.ReceivingLaw
    dsimp only
    rw [hreceiving]
    exact hs.receiving

/-! ### A poised station that stops -/

/-- R111, R115: a joiner's failure. -/
theorem State.Poised.failToListen_stopped {s : State} {bound : Nat} (hs : s.Poised bound)
    (hm : s.controller.state ≠ .member) (cause : ChangeCause) :
    ((s.setReceiving none).failToListen cause).Stopped := by
  obtain ⟨hview, hagree, hdissent, hunsent, hpending, hqueue, hserving⟩ := hs.outsider hm
  have hfailures := hs.failures_lt
  have htransfer : (s.setReceiving none).transfer = ⟨[], none, none⟩ := by
    rw [← hqueue, ← hserving]
    rfl
  have hatEnd := hs.leaveAtTxEnd
  by_cases hlimit : 8 ≤ s.controller.failures + 1
  · rw [failToListen_limit (by exact hlimit)]
    have h8 : s.controller.failures + 1 = 8 := by omega
    exact ⟨hs.configured.congr rfl rfl, .inr (.inr (.inr rfl)), ⟨Nat.le_of_eq h8, fun _ => rfl,
      fun _ => h8⟩, rfl, hs.orderly, hunsent, hs.slot_lt, rfl, rfl, rfl, Nat.zero_le _, rfl, rfl, hview,
      hagree, hdissent, htransfer⟩
  · rw [failToListen_below (by exact Nat.not_le.mp hlimit)]
    refine ⟨hs.configured.congr rfl rfl, .inl rfl, ⟨?_, fun h => ?_, fun h => ?_⟩, ?_, hs.orderly,
      hunsent, hs.slot_lt, rfl, rfl, rfl, Nat.zero_le _, rfl, rfl, hview, hagree, hdissent, htransfer⟩
    · exact Nat.le_of_lt (Nat.not_le.mp hlimit)
    · exact absurd (Nat.le_of_eq h.symm) hlimit
    · cases h
    · show Controller.mk .listen (s.controller.failures + 1) 0 0 0 s.controller.pendingLeave
        s.controller.leaveAtTxEnd = ⟨.listen, s.controller.failures + 1, 0, 0, 0, false, false⟩
      rw [hpending, hatEnd]

/-- R112, R114, R77: a station that leaves for STANDBY with an empty view and no SENT post. -/
theorem enterStandby_stopped {t : State} (hconfigured : t.Configured) (hslot : t.bus.slot < 16)
    (hfailures : t.controller.failures < 8)
    (hview : t.agreement.view = 0 ∧ t.agreement.agree = 0 ∧ t.agreement.dissent = 0)
    (horderly : t.posts.Orderly) (hunsent : t.posts.sentPosts = []) : t.enterStandby.Stopped := by
  obtain ⟨hview, hagree, hdissent⟩ := hview
  rw [enterStandby_eq]
  exact ⟨hconfigured.congr rfl rfl, .inr (.inr (.inl rfl)), ⟨Nat.le_of_lt hfailures,
    fun h => absurd h (Nat.ne_of_lt hfailures), fun h => by cases h⟩, rfl, horderly, hunsent, hslot, rfl,
    rfl, rfl, Nat.zero_le _, rfl, rfl, hview, hagree, hdissent, rfl⟩

/-- R76, R78: exclusion. -/
theorem State.Poised.exclude_stopped {s : State} {bound : Nat} (hs : s.Poised bound)
    (hm : s.controller.state = .member) (cause : ChangeCause) : (s.exclude cause).Stopped := by
  obtain ⟨receiving, hnone, hexclude⟩ := exclude_eq s cause
  have hreceiving : receiving = none := hnone (hs.notReceiving (by rw [hm]; decide))
  have hlt := hs.failures_lt
  have hatEnd := hs.leaveAtTxEnd
  rw [hexclude, hreceiving]
  refine ⟨hs.configured.congr rfl rfl, ?_, ?_, ?_, hs.orderly.queuedOnly _, sentPosts_queuedOnly _ _,
    hs.slot_lt, rfl, rfl, rfl, Nat.zero_le _, rfl, rfl, rfl, rfl, rfl, rfl⟩
  · show s.excludedController.state = _ ∨ _
    unfold State.excludedController
    dsimp only
    split
    · exact .inr (.inr (.inr rfl))
    · split
      · exact .inr (.inr (.inl rfl))
      · exact .inl rfl
  · show s.controller.failures + 1 ≤ 8 ∧ (s.controller.failures + 1 = 8 ↔
      s.excludedController.state = .halted)
    unfold State.excludedController
    dsimp only
    by_cases hlimit : 8 ≤ s.controller.failures + 1
    · rw [if_pos hlimit]
      exact ⟨by omega, fun _ => rfl, fun _ => by omega⟩
    · rw [if_neg hlimit]
      refine ⟨by omega, fun h => by omega, fun h => ?_⟩
      split at h <;> cases h
  · show s.excludedController = ⟨s.excludedController.state, s.excludedController.failures, 0, 0, 0,
      false, false⟩
    unfold State.excludedController
    rw [hatEnd, ite_self]

/-! ### The judgement of a listener's slot -/

theorem State.Poised.waited {s t : State} {bound wait : Nat} (hs : s.Poised bound)
    (hplaced : t.placed = { s.placed with controller := { s.controller with waitCount := wait } })
    (hwait : wait ≤ s.stationCount) : t.Poised bound := by
  obtain ⟨hlisten, hstopped, hjoin, hjoin8, -⟩ := hs.timer
  rw [← poised_placed, hplaced]
  exact { hs with timer := ⟨hlisten, hstopped, hjoin, hjoin8, hwait⟩ }

theorem judgeListen_poised {s : State} {bound : Nat} (hs : s.Poised bound) (v : Verdict) :
    (s.judgeListen v).Poised bound := by
  obtain ⟨h2, -, -⟩ := hs.configured.counts
  have hcounted : s.waitCounted.Poised bound := hs.waited rfl (Nat.min_le_right _ _)
  match v with
  | .intact f true =>
    rw [judgeListen_matching]
    split
    · rw [correctTimer_eq]
      exact hcounted.stays rfl
    · rw [correctTimer_eq]
      exact hs.waited (wait := 1) rfl (by omega)
  | .intact f false =>
    rw [judgeListen_foreign, foreignHeard_eq]
    exact hcounted.stays rfl
  | .bad _ => exact hcounted
  | .silent => exact hcounted

/-! ### The judgement of a joiner's slot -/

theorem correctTimer_poised {s : State} {bound : Nat} (hs : s.Poised bound) :
    s.correctTimer.Poised bound := by
  rw [correctTimer_eq]
  exact hs.stays rfl

theorem foreignHeard_poised {s : State} {bound : Nat} (hs : s.Poised bound) (n : Nat) (tag : Byte) :
    (s.foreignHeard n tag).Poised bound := by
  rw [foreignHeard_eq]
  exact hs.stays rfl

theorem ownJoinEnd_poised {s : State} {bound : Nat} (hs : s.Poised bound)
    (hm : s.controller.state ≠ .member) (v : Verdict) :
    (s.ownJoinEnd v).Poised bound ∨ (s.ownJoinEnd v).Stopped := by
  by_cases htransmit : s.frameCheck.transmit = []
  · have hkept : s.ownJoinEnd v = s := if_pos htransmit
    rw [hkept]
    exact .inl hs
  · cases h : s.loopbackIntact v with
    | none =>
      rw [ownJoinEnd_failed htransmit h]
      exact .inr (hs.failToListen_stopped hm _)
    | some f =>
      rw [ownJoinEnd_intact h]
      exact .inl hs

theorem transferBegun_poised {s : State} {bound : Nat} (hs : s.Poised bound)
    (hstate : s.controller.state = .joining) (f : TallyFrame) {x : TransferSection}
    (hfirst : x.first = 0) : (s.transferBegun f x).Poised bound := by
  rw [transferBegun_eq s hfirst, correctTimer_eq]
  exact hs.outside (st := .receiving) (failures := s.controller.failures) (joinTimer := 0)
    (by rw [hstate]; decide) (.inr rfl) (hs.listenTimer (by rw [hstate]; decide)) rfl hs.failures_lt
    (by decide)
    ⟨rfl, (by decide : 4 % 4 = 0), (by decide : 4 ≤ 4), (by decide : 4 ≤ 28)⟩

theorem judgeJoining_poised {s : State} {bound : Nat} (hs : s.Poised bound)
    (hstate : s.controller.state = .joining) (v : Verdict) : (s.judgeJoining v).Poised bound := by
  have hpassed : ∀ g : Frame, (if g.round = s.bus.round then s.correctTimer else s).Poised bound := by
    intro g
    split
    · exact correctTimer_poised hs
    · exact hs
  match v with
  | .intact (.tally f) true =>
    by_cases hnamed : ∃ x, f.transfer = some x ∧ x.joiner = s.stationNumber
    · obtain ⟨x, hx, hjoiner⟩ := hnamed
      show (s.joiningTally f).Poised bound
      rw [joiningTally_named hx hjoiner]
      split
      · next hfirst => exact transferBegun_poised hs hstate f hfirst
      · exact correctTimer_poised hs
    · rw [judgeJoining_passing fun y z hy hz hjoiner => hnamed ⟨z, by cases hy; exact hz, hjoiner⟩]
      exact hpassed (.tally f)
  | .intact (.join j) true => exact hpassed (.join j)
  | .intact (.tally _) false => exact foreignHeard_poised hs _ _
  | .intact (.join _) false => exact foreignHeard_poised hs _ _
  | .bad _ => exact hs
  | .silent => exact hs

/-! ### The judgement of a slot in RECEIVING -/

/-- R134: an abort leads to JOINING or to HALTED. -/
theorem abortTransfer_poised {s : State} {bound : Nat} (hs : s.Poised bound)
    (hstate : s.controller.state = .receiving) :
    s.abortTransfer.Poised bound ∨ s.abortTransfer.Stopped := by
  have hm : s.controller.state ≠ .member := by rw [hstate]; decide
  unfold State.abortTransfer
  by_cases hlimit : 8 ≤ s.controller.failures + 1
  · have hstopped := hs.failToListen_stopped hm .transferAbort
    rw [failToListen_limit (by exact hlimit)] at hstopped
    rw [failToJoining_limit (by exact hlimit)]
    exact .inr hstopped
  · rw [failToJoining_below (by exact Nat.not_le.mp hlimit)]
    exact .inl (hs.outside (st := .joining) (failures := s.controller.failures + 1) (joinTimer := 0) hm
      (.inl rfl) (hs.listenTimer (by rw [hstate]; decide)) rfl (Nat.not_le.mp hlimit) (by decide)
      (show StationState.joining ≠ .receiving by decide))

/-- A RECEIVING station that goes on with another record. -/
theorem State.Poised.receives {s t : State} {bound : Nat} {r : Receiving} (hs : s.Poised bound)
    (hstate : s.controller.state = .receiving)
    (hplaced : t.placed = { s.placed with transfer := { s.transfer with receiving := some r } })
    (hr : r.next % 4 = 0 ∧ 4 ≤ r.next ∧ r.next ≤ 28) : t.Poised bound := by
  obtain ⟨-, -, hjoin, -⟩ := hs.timer
  have hreceiving : t.transfer.receiving = some r := congrArg (·.transfer.receiving) hplaced
  refine hs.outside (st := .receiving) (failures := s.controller.failures)
    (joinTimer := s.controller.joinTimer) (by rw [hstate]; decide) (.inr rfl)
    (hs.listenTimer (by rw [hstate]; decide)) ?_
    hs.failures_lt ⟨fun _ => hjoin (by rw [hstate]; decide), ?_⟩ ?_
  · rw [hplaced, hreceiving, ← hstate]
    rfl
  · rw [hjoin (by rw [hstate]; decide)]
    decide
  · rw [hreceiving]
    exact ⟨rfl, hr⟩

/-- R80, R111, R133: admission. -/
theorem admission_poised {s : State} {bound : Nat} (hs : s.Poised bound)
    (hstate : s.controller.state = .receiving) (r : Receiving) : (s.admission r).Poised 0 := by
  obtain ⟨-, -, -, hunsent, -, hqueue, hserving⟩ := hs.outsider (by rw [hstate]; decide)
  obtain ⟨-, -, hjoin, hjoin8, hwait⟩ := hs.timer
  have hown : stationIn (stationAdd r.followed s.stationNumber) s.stationNumber = true := by
    simp [stationIn_add, hs.number_lt]
  have hplaced : (s.admission r).placed = { s.placed with
      agreement := ⟨stationAdd r.followed s.stationNumber, 0, 0, 0, 0⟩
      controller := { s.controller with state := .member }
      transfer := ⟨[], none, none⟩ } := by
    have htransfer : { s.transfer with receiving := none } = (⟨[], none, none⟩ : Transfer) := by
      rw [← hqueue, ← hserving]
    unfold State.admission
    rw [reevaluateWatches_eq, setView_eq]
    exact congrArg (fun tr => { s.placed with
      agreement := ⟨stationAdd r.followed s.stationNumber, 0, 0, 0, 0⟩
      controller := { s.controller with state := .member }
      transfer := tr }) htransfer
  have hfailures := hs.failures_lt
  rw [← poised_placed, hplaced]
  exact
    { configured := hs.configured
      failure := ⟨Nat.le_of_lt hfailures, fun h => absurd h (Nat.ne_of_lt hfailures), fun h => by cases h⟩
      view := hown
      count := Nat.le_refl 0
      orderly := hs.orderly
      unsent := fun _ => hunsent
      sync := hs.sync
      slot := hs.slot
      active := rfl
      timer := ⟨fun h => (by cases h), fun _ => hs.listenTimer (by rw [hstate]; decide),
        fun _ => hjoin (by rw [hstate]; decide), hjoin8, hwait⟩
      pendingLeave := fun _ => rfl
      leaveAtTxEnd := hs.leaveAtTxEnd
      join := ⟨Nat.zero_le _, List.nodup_nil, fun _ hn => absurd hn List.not_mem_nil, fun _ => rfl⟩
      serving := trivial
      receiving := fun h => (by cases h) }

theorem State.Poised.receivingRecord {s : State} {bound : Nat} (hs : s.Poised bound) {r : Receiving}
    (hr : s.transfer.receiving = some r) :
    s.controller.state = .receiving ∧ r.next % 4 = 0 ∧ 4 ≤ r.next ∧ r.next ≤ 28 := by
  have hreceiving := hs.receiving
  unfold State.ReceivingLaw at hreceiving
  rw [hr] at hreceiving
  exact hreceiving

theorem acceptDonorFrame_poised {s : State} {bound : Nat} (hs : s.Poised bound) {r : Receiving}
    (hr : s.transfer.receiving = some r) {f : TallyFrame} {x : TransferSection}
    (hx : f.transfer = some x) (hfirst : x.first = r.next) :
    (s.acceptDonorFrame r f x).Poised bound := by
  obtain ⟨hstate, hmod, hlow, hhigh⟩ := hs.receivingRecord hr
  unfold State.acceptDonorFrame
  dsimp only
  rw [followContributions_installed (by rw [hstate]; decide) (hfirst ▸ hhigh)]
  refine correctTimer_poised ?_
  split
  · next hadmits =>
    have hpoised : State.Poised { s with transfer := { s.transfer with receiving := some r } } bound :=
      hs.receives hstate rfl ⟨hmod, hlow, hhigh⟩
    have hadmitted := admission_poised hpoised hstate { r with next := r.next + 4 }
    refine (hadmitted.mono (Nat.zero_le bound)).stays ?_
    unfold State.admission
    rw [reevaluateWatches_eq, setView_eq]
    conv_rhs => rw [reevaluateWatches_eq, setView_eq]
    rfl
  · next hadmits =>
    rw [admits_iff hx, hfirst] at hadmits
    exact hs.receives (r := { r with next := r.next + 4 }) hstate rfl
      ⟨by dsimp only; omega, by dsimp only; omega, by dsimp only; omega⟩

theorem donorSlot_poised {s : State} {bound : Nat} (hs : s.Poised bound) {r : Receiving}
    (hr : s.transfer.receiving = some r) (v : Verdict) :
    (s.donorSlot r v).Poised bound ∨ (s.donorSlot r v).Stopped := by
  obtain ⟨hstate, -⟩ := hs.receivingRecord hr
  have habort := abortTransfer_poised hs hstate
  match v with
  | .intact (.tally f) true =>
    by_cases h : f.round = s.bus.round ∧ f.view = r.followed ∧ f.digest = s.agreement.digest ∧
        ∃ x ∈ f.transfer, x.joiner = s.stationNumber ∧ x.first = r.next
    · obtain ⟨hround, hview, hdigest, x, hx, hjoiner, hfirst⟩ := h
      rw [donorSlot_expected ((agreesFollowed_iff ..).mpr ⟨hround, hview, hdigest⟩) hx
        ⟨hjoiner, hfirst⟩]
      exact .inl (acceptDonorFrame_poised hs hr hx hfirst)
    · rw [donorSlot_unexpected h]
      exact habort
  | .intact (.join _) true => exact habort
  | .intact g false =>
    rw [donorSlot_foreign]
    exact abortTransfer_poised (foreignHeard_poised hs _ _) (by rw [foreignHeard_eq]; exact hstate)
  | .bad _ => exact habort
  | .silent => exact habort

theorem followedSlot_poised {s : State} {bound : Nat} (hs : s.Poised bound) {r : Receiving}
    (hr : s.transfer.receiving = some r) (v : Verdict) :
    (s.followedSlot r v).Poised bound ∨ (s.followedSlot r v).Stopped := by
  obtain ⟨hstate, hnext⟩ := hs.receivingRecord hr
  have habort := abortTransfer_poised hs hstate
  have hremoved : (s.setReceiving (some { r with
      followed := stationRemove r.followed s.bus.slot })).Poised bound := hs.receives hstate rfl hnext
  match v with
  | .intact (.tally f) true =>
    unfold State.followedSlot
    dsimp only
    split
    · rw [State.followContributions, followContributions_eq (r := r) f.sender f.contributions s
        (by rw [hstate]; decide) hr]
      exact .inl (correctTimer_poised
        (hs.receives (r := { r with followed := followedAfter r.followed f }) hstate rfl hnext))
    · exact habort
  | .intact (.join _) true => exact .inl hremoved
  | .intact g false =>
    rw [followedSlot_foreign]
    exact abortTransfer_poised (foreignHeard_poised hs _ _) (by rw [foreignHeard_eq]; exact hstate)
  | .bad _ => exact habort
  | .silent => exact .inl hremoved

theorem outsideSlot_poised {s : State} {bound : Nat} (hs : s.Poised bound) (v : Verdict) :
    (s.outsideSlot v).Poised bound := by
  match v with
  | .intact (.join j) true =>
    show (if j.round = s.bus.round then s.correctTimer else s).Poised bound
    split
    · exact correctTimer_poised hs
    · exact hs
  | .intact (.tally _) true => exact hs
  | .intact (.join _) false => exact foreignHeard_poised hs _ _
  | .intact (.tally _) false => exact foreignHeard_poised hs _ _
  | .bad _ => exact hs
  | .silent => exact hs

theorem judgeReceiving_poised {s : State} {bound : Nat} (hs : s.Poised bound) (v : Verdict) :
    (s.judgeReceiving v).Poised bound ∨ (s.judgeReceiving v).Stopped := by
  unfold State.judgeReceiving
  split
  · exact .inl hs
  · next r hr =>
    split
    · exact donorSlot_poised hs hr v
    · split
      · exact followedSlot_poised hs hr v
      · exact .inl (outsideSlot_poised hs v)

end Sys2Proof.Machine
end

section
/-! PROOF. What the judgement of a slot and the own slot start leave of the line (R27, R30): the level of RXD
and the slot number; and, of a station still in the schedule, everything it has heard. -/

namespace Sys2Proof.Machine

-- One theorem after another: each proof checked beside another takes a thread with memory of its own.
set_option Elab.async false

/-- From one state to another the line and the slot number are the same; and while the station is in the
schedule the Bus Interface has at most corrected its timer and its round, and been supplied a frame. -/
structure State.SameLine (s t : State) : Prop where
  rxd : t.rxd = s.rxd
  slot : t.bus.slot = s.bus.slot
  heard : t.bus.sync = true →
    t.bus = { s.bus with
      slotTimer := t.bus.slotTimer, round := t.bus.round, loopback := t.bus.loopback, tx := t.bus.tx } ∧
      t.frameCheck = { s.frameCheck with transmit := t.frameCheck.transmit }

theorem State.SameLine.of_same {s t : State} (hrxd : t.rxd = s.rxd)
    (hbus : t.bus = { s.bus with
      slotTimer := t.bus.slotTimer, round := t.bus.round, loopback := t.bus.loopback, tx := t.bus.tx })
    (hframe : t.frameCheck = { s.frameCheck with transmit := t.frameCheck.transmit }) :
    s.SameLine t :=
  ⟨hrxd, by rw [hbus], fun _ => ⟨hbus, hframe⟩⟩

/-- A station that has left the schedule. -/
theorem State.SameLine.of_left {s t : State} (hrxd : t.rxd = s.rxd) (hslot : t.bus.slot = s.bus.slot)
    (hleft : t.bus.sync = false) : s.SameLine t :=
  ⟨hrxd, hslot, fun h => absurd h (ne_true_of_eq_false hleft)⟩

theorem State.SameLine.refl (s : State) : s.SameLine s := .of_same rfl rfl rfl

theorem State.SameLine.trans {s t u : State} (hst : s.SameLine t) (htu : t.SameLine u) :
    s.SameLine u := by
  refine ⟨htu.rxd.trans hst.rxd, htu.slot.trans hst.slot, fun hu => ?_⟩
  obtain ⟨hbus, hframe⟩ := htu.heard hu
  have ht : t.bus.sync = true := (congrArg Bus.sync hbus).symm.trans hu
  obtain ⟨hbus', hframe'⟩ := hst.heard ht
  constructor
  · rw [hbus, hbus']
  · rw [hframe, hframe']

/-- A change of other parts of the station may come first. -/
theorem State.SameLine.after {s t u : State} (htu : t.SameLine u) (hrxd : t.rxd = s.rxd)
    (hbus : t.bus = { s.bus with round := t.bus.round }) (hframe : t.frameCheck = s.frameCheck) :
    s.SameLine u :=
  State.SameLine.trans (.of_same hrxd (by rw [hbus]) (by rw [hframe])) htu

theorem foldl_sameLine {α : Type} {f : State → α → State}
    (hf : ∀ (s : State) (a : α), s.SameLine (f s a)) (list : List α) (s : State) :
    s.SameLine (list.foldl f s) := by
  induction list generalizing s with
  | nil => exact .refl s
  | cons a list ih => exact (hf s a).trans (ih (f s a))

/-! ### The operations of the blocks -/

theorem correctTimer_sameLine (s : State) : s.SameLine s.correctTimer := by
  rw [correctTimer_eq]
  exact .of_same rfl rfl rfl

theorem foreignHeard_sameLine (s : State) (n : Nat) (tag : Byte) :
    s.SameLine (s.foreignHeard n tag) := by
  rw [foreignHeard_eq]
  exact .of_same rfl rfl rfl

theorem failToListen_sameLine (s : State) (cause : ChangeCause) :
    s.SameLine (s.failToListen cause) := by
  unfold State.failToListen
  dsimp only
  split
  · exact .of_left rfl rfl rfl
  · exact .of_left rfl rfl rfl

theorem exclude_sameLine (s : State) (cause : ChangeCause) : s.SameLine (s.exclude cause) := by
  obtain ⟨receiving, -, h⟩ := exclude_eq s cause
  rw [h]
  exact .of_left rfl rfl rfl

theorem followContributions_sameLine (s : State) (f : TallyFrame) :
    s.SameLine (s.followContributions f) := by
  refine foldl_sameLine (fun s c => ?_) _ s
  unfold State.followContribution
  split
  · rw [applyToCell_eq]
    exact .of_same rfl rfl rfl
  · exact .of_same rfl rfl rfl

/-! ### The judgement -/

theorem judgeListen_sameLine (s : State) (v : Verdict) : s.SameLine (s.judgeListen v) := by
  have hcounted : s.SameLine s.waitCounted := .of_same rfl rfl rfl
  unfold State.judgeListen
  dsimp only
  split
  · split
    · exact hcounted.trans (correctTimer_sameLine _)
    · exact .after (correctTimer_sameLine _) rfl rfl rfl
  · exact hcounted.trans (foreignHeard_sameLine _ _ _)
  · exact hcounted
  · exact hcounted

theorem ownJoinEnd_sameLine (s : State) (v : Verdict) : s.SameLine (s.ownJoinEnd v) := by
  unfold State.ownJoinEnd
  split
  · exact .refl s
  · split
    · exact .refl s
    · exact .after (failToListen_sameLine _ _) rfl rfl rfl

theorem judgeJoining_sameLine (s : State) (v : Verdict) : s.SameLine (s.judgeJoining v) := by
  unfold State.judgeJoining
  split
  · next f =>
    have haccepted : s.SameLine (if f.round = s.bus.round then s.correctTimer else s) := by
      split
      · exact correctTimer_sameLine s
      · exact .refl s
    unfold State.joiningTally
    dsimp only
    split
    · split
      · split
        · unfold State.transferBegun State.beginTransfer
          refine State.SameLine.trans ?_ (correctTimer_sameLine _)
          exact .after (followContributions_sameLine _ f) rfl rfl rfl
        · exact correctTimer_sameLine s
      · exact haccepted
    · exact haccepted
  · split
    · exact correctTimer_sameLine s
    · exact .refl s
  · exact foreignHeard_sameLine s _ _
  · exact .refl s
  · exact .refl s

theorem abortTransfer_sameLine (s : State) : s.SameLine s.abortTransfer := by
  unfold State.abortTransfer State.failToJoining
  dsimp only
  split
  · exact .of_left rfl rfl rfl
  · exact .of_same rfl rfl rfl

theorem admission_sameLine (s : State) (r : Receiving) : s.SameLine (s.admission r) := by
  unfold State.admission
  rw [reevaluateWatches_eq, setView_eq]
  exact .of_same rfl rfl rfl

theorem donorSlot_sameLine (s : State) (r : Receiving) (v : Verdict) : s.SameLine (s.donorSlot r v) := by
  have habort := abortTransfer_sameLine s
  unfold State.donorSlot
  split
  · next f =>
    split
    · split
      · next x hx =>
        split
        · have hfollowed : s.SameLine (((s.installCells x).setReceiving
              (some { r with next := r.next + 4 })).followContributions f) :=
            .after (followContributions_sameLine _ f) rfl rfl rfl
          unfold State.acceptDonorFrame
          dsimp only
          refine State.SameLine.trans ?_ (correctTimer_sameLine _)
          split
          · exact hfollowed.trans (admission_sameLine _ _)
          · exact hfollowed
        · exact habort
      · exact habort
    · exact habort
  · exact habort
  · exact (foreignHeard_sameLine s _ _).trans (abortTransfer_sameLine _)
  · exact habort
  · exact habort

theorem followedSlot_sameLine (s : State) (r : Receiving) (v : Verdict) :
    s.SameLine (s.followedSlot r v) := by
  have habort := abortTransfer_sameLine s
  unfold State.followedSlot
  split
  · next f =>
    split
    · refine State.SameLine.trans ?_ (correctTimer_sameLine _)
      exact (followContributions_sameLine s f).trans (.of_same rfl rfl rfl)
    · exact habort
  · exact .of_same rfl rfl rfl
  · exact .of_same rfl rfl rfl
  · exact (foreignHeard_sameLine s _ _).trans (abortTransfer_sameLine _)
  · exact habort

theorem judgeReceiving_sameLine (s : State) (v : Verdict) : s.SameLine (s.judgeReceiving v) := by
  unfold State.judgeReceiving
  split
  · exact .refl s
  · next r hr =>
    split
    · exact donorSlot_sameLine s r v
    · split
      · exact followedSlot_sameLine s r v
      · unfold State.outsideSlot
        split
        · split
          · exact correctTimer_sameLine s
          · exact .refl s
        · exact .refl s
        · exact foreignHeard_sameLine s _ _
        · exact .refl s
        · exact .refl s

theorem ownSlotEnd_sameLine (s : State) (v : Verdict) : s.SameLine (s.ownSlotEnd v) := by
  unfold State.ownSlotEnd
  split
  · exact .refl s
  · split
    · next f hf =>
      obtain ⟨g, view, host, transfer, events, -, hacted⟩ := ownActedOn_eq s f
      rw [ownFrameIntact_eq, hacted]
      split
      · rw [enterStandby_eq]
        rw [setView_eq]
        exact .of_left rfl rfl rfl
      · exact .of_same rfl rfl rfl
    · exact .refl s
    · exact exclude_sameLine s .loopback

/-- R62: the judgement of a slot. -/
theorem judgeSlot_sameLine (s : State) (v : Verdict) : s.SameLine (s.judgeSlot v) := by
  unfold State.judgeSlot
  split
  · exact judgeListen_sameLine s v
  · split
    · exact ownJoinEnd_sameLine s v
    · exact judgeJoining_sameLine s v
  · split
    · exact ownJoinEnd_sameLine s v
    · exact judgeReceiving_sameLine s v
  · by_cases hown : s.bus.slot = s.stationNumber
    · have hjudge : s.judgeMember v = s.ownSlotEnd v := if_pos hown
      rw [hjudge]
      exact ownSlotEnd_sameLine s v
    · obtain ⟨_, _, _, _, _, _, _, hother⟩ := judgeMember_other hown v
      rw [hother]
      exact .of_same rfl rfl rfl
  all_goals exact .refl s

/-! ### The own slot start -/

theorem joiningStep_sameLine (s : State) : s.SameLine s.joiningStep := by
  unfold State.joiningStep
  split
  · exact .of_same rfl rfl rfl
  · exact failToListen_sameLine s _

theorem ownSlotEvaluation_sameLine (s : State) : s.SameLine (s.ownSlotEvaluation false) := by
  unfold State.ownSlotEvaluation
  split
  · exact exclude_sameLine s _
  · rw [keepInView_eq]
    split
    · exact .of_same rfl rfl rfl
    · unfold State.buildTally
      dsimp only
      rw [donorDecision_eq]
      exact .of_same rfl rfl rfl

/-- R27: the own slot start, where it is one. -/
theorem signalOwnSlot_sameLine (s : State) : s.SameLine s.signalOwnSlot := by
  unfold State.signalOwnSlot State.ownSlotStart
  split
  · split
    · split
      · exact .after (joiningStep_sameLine _) rfl rfl rfl
      · exact .refl s
    · exact joiningStep_sameLine s
    · unfold State.receivingStep
      split
      · exact .of_same rfl rfl rfl
      · exact .refl s
    · exact ownSlotEvaluation_sameLine s
    all_goals exact .refl s
  · exact .refl s

end Sys2Proof.Machine
end

section
/-! PROOF. A fall of RXD in a slot (R24, R25, R29, R30, R35, R37): the run that ends or begins with it, its
timing verdict, and the run carried over the slot's end. -/

namespace Sys2Proof.Machine

-- One theorem after another: each proof checked beside another takes a thread with memory of its own.
set_option Elab.async false

/-! ### A run that a start bit ends -/

/-- R53: a run in a slot ended and, if it was the slot's frame, judged. -/
def State.runEnded (s : State) (r : Run) : State :=
  { s with
    bus := { s.bus with run := none }
    frameCheck := { s.frameCheck with
      judged := if r.isFrame then some (s.runVerdict r) else s.frameCheck.judged } }

theorem passTime_endRun_synchronised {s : State} {r : Run} (hsync : s.bus.sync = true)
    (hrun : s.bus.run = some r) (n : Nat) : (s.passTime n).endRun = (s.runEnded r).passTime n := by
  rw [endRun_synchronised (s := s.passTime n) hsync (passTime_run hrun n)]
  rfl

/-- R25: the station in a slot with any run in progress ended. -/
def State.runOut (s : State) : State :=
  match s.bus.run with
  | none => s
  | some r => s.runEnded r

theorem runOut_none {s : State} (h : s.bus.run = none) : s.runOut = s := by
  simp only [State.runOut, h]

theorem runOut_some {s : State} {r : Run} (h : s.bus.run = some r) : s.runOut = s.runEnded r := by
  simp only [State.runOut, h]

theorem runOut_eq (s : State) : ∃ judged, s.runOut = { s with
    bus := { s.bus with run := none }, frameCheck := { s.frameCheck with judged := judged } } := by
  cases h : s.bus.run with
  | none =>
    refine ⟨s.frameCheck.judged, (runOut_none h).trans ?_⟩
    rw [← h]
  | some r => exact ⟨_, runOut_some h⟩

theorem runOut_bus (s : State) : s.runOut.bus = { s.bus with run := none } := by
  obtain ⟨judged, h⟩ := runOut_eq s
  rw [h]

section
variable {s : State} (hactive : s.controller.state.active = true) (hsync : s.bus.sync = true)
  {fall : RxdFall} (hstart : startBit fall.samples = true) {gap : Nat}
include hactive hsync hstart

/-- R24, R25: a start bit that belongs to no run in progress. -/
theorem exec_characterBegins (hover : s.bus.run = none ∨ 32 < gap ∨ s.rxd.idleAt + 32 < s.rxd.age) :
    exec (.busActivity gap fall) s = .next
      (((s.runOut.passTime (s.timeToGap gap)).noteFall fall).startCharacter fall.samples) := by
  cases hrun : s.bus.run with
  | none =>
    have hwait : s.timeToGap gap = s.rxd.untilHigh + gap := by simp only [State.timeToGap, hrun]
    rw [exec_character hrun fall hactive hstart gap, runOut_none hrun, hwait]
  | some r =>
    have hwait : s.timeToGap gap = s.rxd.idleAt + gap - s.rxd.age := by
      simp only [State.timeToGap, hrun]
    have hends : (s.passTime (s.timeToGap gap)).rxd.endsRun = true := by
      rw [State.passTime_rxd, endsRun_later, hwait]
      rw [hrun] at hover
      refine decide_eq_true ?_
      obtain hnone | hgap | hage := hover
      · cases hnone
      · omega
      · omega
    refine congrArg Host.Outcome.next ?_
    rw [fallOnRxd_active hstart hactive, endRunIfOver_over hends,
      passTime_endRun_synchronised hsync hrun, runOut_some hrun]

/-- R29: a start bit that begins the slot's first run. -/
theorem exec_firstRun (hsilent : s.bus.start = .silent)
    (hover : s.bus.run = none ∨ 32 < gap ∨ s.rxd.idleAt + 32 < s.rxd.age) :
    exec (.busActivity gap fall) s = .next (s.runOut.begun (s.timeToGap gap) fall
      (startVerdict (s.bus.slotTimer + s.timeToGap gap)) s.bus.further
      (startVerdict (s.bus.slotTimer + s.timeToGap gap)).receives) := by
  have hbus := runOut_bus s
  rw [exec_characterBegins hactive hsync hstart hover, character_first (by rw [hbus]) _ fall
    (by rw [hbus]; exact hsync) (by rw [hbus]; exact hsilent), hbus]

/-- R30: a start bit that begins a further run. -/
theorem exec_furtherRun (hbegun : s.bus.start ≠ .silent)
    (hover : s.bus.run = none ∨ 32 < gap ∨ s.rxd.idleAt + 32 < s.rxd.age) :
    exec (.busActivity gap fall) s = .next (s.runOut.begun (s.timeToGap gap) fall s.bus.start
      (s.bus.further || s.bus.start.receives) false) := by
  have hbus := runOut_bus s
  rw [exec_characterBegins hactive hsync hstart hover, character_further (by rw [hbus]) _ fall
    (by rw [hbus]; exact hsync) (by rw [hbus]; exact hbegun), hbus]

/-- R24, R25, R35, R37: what a start bit in a slot may reach. -/
theorem exec_startBit : ∃ start further run frameCheck,
    exec (.busActivity gap fall) s = .next { s with
      bus := { s.bus with
        slotTimer := s.bus.slotTimer + s.timeToGap gap, start := start, further := further, run := run
        loopback := s.captured (dataByte fall.samples) }
      frameCheck := frameCheck, rxd := ⟨fall, 0⟩, controller := s.restarted } := by
  have htimer : s.timerAfter (s.timeToGap gap) = s.bus.slotTimer + s.timeToGap gap := if_pos hsync
  obtain ⟨judged, hout⟩ := runOut_eq s
  by_cases hover : s.bus.run = none ∨ 32 < gap ∨ s.rxd.idleAt + 32 < s.rxd.age
  · rw [← htimer]
    by_cases hsilent : s.bus.start = .silent
    · rw [exec_firstRun hactive hsync hstart hsilent hover, hout]
      exact ⟨_, _, _, _, rfl⟩
    · rw [exec_furtherRun hactive hsync hstart hsilent hover, hout]
      exact ⟨_, _, _, _, rfl⟩
  · obtain ⟨hsome, hgap, hage⟩ : s.bus.run ≠ none ∧ gap ≤ 32 ∧ s.rxd.age ≤ s.rxd.idleAt + 32 := by
      simpa only [not_or, Nat.not_lt] using hover
    obtain ⟨r, hrun⟩ := Option.ne_none_iff_exists'.mp hsome
    have hwait : s.timeToGap gap = s.rxd.idleAt + gap - s.rxd.age := by
      simp only [State.timeToGap, hrun]
    rw [exec_characterInRun hactive hstart hrun hgap hage, ← hwait, htimer]
    exact ⟨_, _, _, _, rfl⟩

end

/-- R37: after a low stop bit the listen timer counts from RXD's return to high. -/
theorem listenTimer_afterLowStop {t : State} {fall : RxdFall} (hstate : t.controller.state = .listen)
    (hrxd : t.rxd = ⟨fall, 0⟩) (htimer : t.controller.listenTimer = 0)
    (hlow : stopLow fall.samples = true) {n : Nat} (hn : bits 10 ≤ n) :
    (t.passTime n).controller.listenTimer = n - (bits 10 + fall.low) := by
  have hhigh : t.rxd.highAfter n = n - (bits 10 + fall.low) := by
    rw [hrxd, Rxd.highAfter, if_pos ⟨hlow, by dsimp only; omega⟩, Rxd.idleAt, if_pos hlow]
    dsimp only
    omega
  show t.listenAfter n = _
  rw [listenAfter_listen hstate, hhigh, htimer]
  omega

/-! ### The end of a slot with a run in progress -/

/-- R27, R30: a run that lasts past the end of its slot is followed in the next one. -/
theorem slotEnd_carriesRun {s t : State} {r : Run} {v : Verdict} (hend : s.SlotEndsWith v)
    (hrun : s.bus.run = some r) (hexec : exec .slotEnd s = .next t) :
    t.rxd = s.rxdAtSlotEnd ∧ (t.bus.sync = true →
      t.bus.slot = s.nextSlot ∧ t.bus.start = .silent ∧ t.bus.further = false ∧
        t.bus.carried = true ∧
        t.bus.run = some { r with
          isFrame := false, age := r.age + s.timeToReading s.slotSixteenths } ∧
        t.frameCheck.receive = [] ∧ t.frameCheck.judged = none) := by
  obtain ⟨hboundary, hverdict⟩ := exec_slotEnd_ends hend
  have hjudged := judgeSlot_sameLine s.atBoundary v
  have hconfig : (s.atBoundary.judgeSlot v).config = s.config :=
    congrArg Lasting.config (judgeSlot_endures s.atBoundary v).lasting
  have ht : t = s.atBoundary.slotBoundary := Host.Outcome.next.inj (hexec.symm.trans hboundary)
  have hcarried : s.atBoundary.bus.run = some { r with
      age := r.age + s.timeToReading s.slotSixteenths } := passTime_run hrun _
  rw [ht, State.slotBoundary, hverdict]
  generalize s.atBoundary.judgeSlot v = judged at hjudged hconfig
  have hnext : judged.nextSlot = s.nextSlot := by
    have hslot : judged.bus.slot = s.bus.slot := hjudged.slot
    unfold State.nextSlot State.stationCount
    rw [hslot, hconfig]
  cases hsync : judged.bus.sync with
  | false =>
    obtain ⟨slot, round, hleft, -⟩ := numbersOnLeaving_eq judged
    rw [if_neg Bool.false_ne_true, hleft]
    exact ⟨hjudged.rxd, fun h => absurd h (ne_true_of_eq_false hsync)⟩
  | true =>
    have hsignal := signalOwnSlot_sameLine judged.beginNextSlot
    obtain ⟨hbus, -⟩ := hjudged.heard hsync
    have hlasting : judged.bus.run = some { r with
        age := r.age + s.timeToReading s.slotSixteenths } := by rw [hbus]; exact hcarried
    rw [if_pos rfl]
    refine ⟨hsignal.rxd.trans hjudged.rxd, fun h => ?_⟩
    obtain ⟨hline, hframe⟩ := hsignal.heard h
    rw [hline, hframe]
    refine ⟨hnext, rfl, rfl, ?_, ?_, rfl, rfl⟩
    · show judged.bus.run.isSome = true
      rw [hlasting]
      rfl
    · show judged.bus.run.map _ = _
      rw [hlasting]
      rfl

/-! ### The statement -/

theorem capturing_full {tx : TxPhase} {loopback : List Byte} (h : tx = .idle ∨ 93 ≤ loopback.length)
    (b : Byte) : capturing tx loopback b = loopback :=
  if_neg fun ⟨htx, hlength⟩ => h.elim htx fun hle => Nat.not_lt.mpr hle hlength

/-- Settles O29: the run a start bit begins or goes on with, and the verdict of the slot. -/
theorem firstFallGivesTimingVerdict : Obligations.FirstFallGivesTimingVerdict := by
  intro s gap low wait n samples r offset v hactive hsync hwait
  have hwait : s.timeToGap gap = wait := by
    rw [hwait, State.timeToGap]
    cases s.bus.run <;> rfl
  refine ⟨fun hglitch => ?glitch, fun hbit => ?bit, fun h => ?silent, fun h => ?early, fun h => ?late,
    fun h => ⟨fun hspoiled => ?spoiled, fun hfurther hquiet hjudged => ?judged⟩,
    fun hrun htx hlasts htimer => ?carried⟩
  case glitch =>
    have hnot : startBit samples = false := by rw [startBit, hglitch]; rfl
    have hexec : exec (.busActivity gap ⟨samples, low⟩) s = .next (s.passTime wait) := by
      rw [← hwait]
      exact congrArg Host.Outcome.next (fallOnRxd_glitch (fall := ⟨samples, low⟩) hnot s gap)
    rw [hexec, passTime_synchronised hsync]
    rfl
  case bit =>
    have hstart : startBit samples = true := by rw [startBit, hbit]; rfl
    obtain ⟨start, further, run, frameCheck, hexec⟩ :=
      exec_startBit hactive hsync (fall := ⟨samples, low⟩) hstart (gap := gap)
    rw [hwait] at hexec
    generalize ht : ({ s with
      bus := { s.bus with
        slotTimer := s.bus.slotTimer + wait, start := start, further := further, run := run
        loopback := s.captured (dataByte samples) }
      frameCheck := frameCheck, rxd := ⟨⟨samples, low⟩, 0⟩, controller := s.restarted } : State) = t
      at hexec
    have hunique : ∀ {u : State}, exec (.busActivity gap ⟨samples, low⟩) s = .next u → t = u :=
      fun h => Host.Outcome.next.inj (hexec.symm.trans h)
    refine ⟨t, hexec, ?_, ?_, ?_, ?_, ?_, ?_, ?_, fun htx hroom => ?_, fun hfull => ?_,
      fun hsilent hquiet => ?first, fun hbegun hquiet => ?further, fun hrun hgap hage => ?within,
      fun hstate hlow hn => ?low⟩
    · rw [← ht]
      rfl
    · rw [← ht]
    · rw [← ht]
    · rw [← ht]
    · rw [← ht]
      exact hsync
    · rw [← ht]
    · rw [← ht]
    · rw [← ht]
      exact if_pos ⟨htx, hroom⟩
    · rw [← ht]
      exact capturing_full hfull _
    case first =>
      obtain ⟨hover, hout⟩ : (s.bus.run = none ∨ 32 < gap ∨ s.rxd.idleAt + 32 < s.rxd.age) ∧
          s.runOut.frameCheck = s.frameCheck := by
        obtain hrun | ⟨hrun, hframe, hgap⟩ := hquiet
        · exact ⟨.inl hrun, by rw [runOut_none hrun]⟩
        · refine ⟨.inr (.inl hgap), ?_⟩
          rw [runOut_some hrun, State.runEnded, hframe]
          rfl
      have hfirst := hunique (exec_firstRun hactive hsync hstart hsilent hover)
      rw [hwait] at hfirst
      have hreceived : ∀ {x : SlotStart}, startVerdict (s.bus.slotTimer + wait) = x →
          t.bus.start = x ∧ t.bus.run = some ⟨x.receives, 1, !samples.getLsbD 9, 0⟩ ∧
            t.frameCheck = { s.frameCheck with
              receive := if x.receives then [samples.extractLsb' 1 8]
                else s.frameCheck.receive } := by
        rintro _ rfl
        rw [hfirst, ← hout]
        exact ⟨rfl, rfl, rfl⟩
      refine ⟨by rw [hfirst]; rfl, fun hlt => ?_, fun hlow hhigh => ?_, fun hlt => ?_⟩
      · exact hreceived (if_pos hlt)
      · exact hreceived (startVerdict_window hlow hhigh)
      · exact hreceived ((if_neg (by simp only [bits]; omega)).trans
          (if_neg (by simp only [bits]; omega)))
    case further =>
      have hover : s.bus.run = none ∨ 32 < gap ∨ s.rxd.idleAt + 32 < s.rxd.age :=
        hquiet.imp_right fun h => .inl h.2
      have hfurther := hunique (exec_furtherRun hactive hsync hstart hbegun hover)
      have hframe : t.frameCheck = s.runOut.frameCheck := by rw [hfurther]; rfl
      refine ⟨by rw [hfurther]; rfl, by rw [hfurther]; rfl, fun h => ?_, fun h => ?_, fun h => ?_,
        fun hrun hisFrame => ?_⟩
      · rw [hfurther, h]
        exact Bool.or_true _
      · have hreceives : s.bus.start.receives = false := by
          obtain h | h := h <;> rw [h] <;> rfl
        rw [hfurther, hreceives]
        exact Bool.or_false _
      · rw [hframe]
        obtain hrun | hisFrame := h
        · rw [runOut_none hrun]
        · obtain hrun | ⟨hrun, -⟩ := hquiet
          · rw [runOut_none hrun]
          · rw [runOut_some hrun, State.runEnded, hisFrame]
            rfl
      · rw [hframe, runOut_some hrun, State.runEnded, State.runVerdict, hisFrame, hsync]
        rfl
    case within =>
      have hlonger := hunique (exec_characterInRun (fall := ⟨samples, low⟩) hactive hstart hrun hgap
        (by omega))
      have hage : s.rxd.idleAt + gap - s.rxd.age = wait := by
        rw [← hwait]
        simp only [State.timeToGap, hrun]
      rw [hlonger, hage]
      exact ⟨rfl, rfl, rfl, rfl⟩
    case low =>
      have hstopLow : stopLow samples = true := by rw [stopLow, hlow]; rfl
      refine listenTimer_afterLowStop (fall := ⟨samples, low⟩) ?_ ?_ ?_ hstopLow hn
      · rw [← ht]
        exact hstate
      · rw [← ht]
      · rw [← ht]
        exact if_pos hstate
  case silent => simp only [State.slotVerdict, h]
  case early => simp only [State.slotVerdict, h]
  case late => simp only [State.slotVerdict, h]
  case spoiled =>
    have hany : (s.bus.further || s.bus.run.any Run.isFrame) = true := by
      obtain hfurther | ⟨hrun, hframe⟩ := hspoiled
      · rw [hfurther]
        rfl
      · rw [hrun, Option.any_some, hframe, Bool.or_true]
    simp only [State.slotVerdict, h, hany, if_true]
  case judged =>
    have hnone : (s.bus.further || s.bus.run.any Run.isFrame) = false := by
      rw [hfurther, Bool.false_or]
      obtain hrun | ⟨hrun, hframe⟩ := hquiet
      · rw [hrun]
        rfl
      · rw [hrun, Option.any_some, hframe]
    simp only [State.slotVerdict, h, hnone, hjudged, Bool.false_eq_true, if_false, Option.getD_some]
  case carried =>
    have hend : s.SlotEndsWith s.slotVerdict := ⟨hsync, htx, .inr hlasts, htimer, rfl⟩
    obtain ⟨hexec, -⟩ := exec_slotEnd_ends hend
    exact ⟨_, hexec, slotEnd_carriesRun hend hrun hexec⟩

end Sys2Proof.Machine
end

section
/-! PROOF. What the judgement of a slot makes of a lawful member (R62 to R73, R77, R78), and of any lawful
station in the schedule. -/

namespace Sys2Proof.Machine

-- One theorem after another: each proof checked beside another takes a thread with memory of its own.
set_option Elab.async false

/-! ### The view and the donor side together -/

/-- R58, R121, R124: the station is of its view, and its donor side fits the view. -/
structure State.Seated (s : State) : Prop where
  own : stationIn s.agreement.view s.stationNumber = true
  donor : DonorSide s.stationNumber s.agreement.view s.transfer

theorem State.Poised.seated {s : State} {bound : Nat} (hs : s.Poised bound)
    (hm : s.controller.state = .member) : s.Seated :=
  ⟨(if_pos hm).mp hs.view, hs.donorSide⟩

section
variable {s : State} (h : s.Seated)
include h

theorem actOnAdmit_seated (f : TallyFrame) :
    (s.actOnAdmit f).Seated ∧ (s.actOnAdmit f).transfer.receiving = s.transfer.receiving := by
  obtain hnone | ⟨x, hx, hfirst⟩ := admit_cases f
  · rw [actOnAdmit_none hnone]
    exact ⟨h, rfl⟩
  · rw [actOnAdmit_some hx hfirst, admitJoiner_eq]
    refine ⟨⟨?_, h.donor.admitted x.joiner⟩, rfl⟩
    show stationIn (stationAdd s.agreement.view x.joiner) s.stationNumber = true
    rw [stationIn_add, h.own, Bool.true_or]

theorem stationIn_removeOther (hown : s.bus.slot ≠ s.stationNumber) :
    stationIn (stationRemove s.agreement.view s.bus.slot) s.stationNumber = true := by
  rw [stationIn_remove, h.own, decide_eq_false (Ne.symm hown)]
  rfl

theorem actOnFarewell_seated (hown : s.bus.slot ≠ s.stationNumber) (f : TallyFrame) :
    (s.actOnFarewell f).Seated ∧ (s.actOnFarewell f).transfer = s.transfer := by
  cases hf : f.farewell with
  | false =>
    rw [actOnFarewell_false hf]
    exact ⟨h, rfl⟩
  | true =>
    rw [actOnFarewell_true hf]
    exact ⟨⟨stationIn_removeOther h hown, h.donor.remove s.bus.slot⟩, rfl⟩

theorem acceptedBy_seated (hown : s.bus.slot ≠ s.stationNumber) (f : TallyFrame) :
    (s.acceptedBy f).Seated ∧ (s.acceptedBy f).transfer.receiving = s.transfer.receiving := by
  have hcounted : (s.contributedBy f).countAgree.Seated := by
    rw [contributedBy_eq]
    exact ⟨h.own, h.donor⟩
  obtain ⟨hadmitted, hreceiving⟩ := actOnAdmit_seated hcounted f
  have hslot : ((s.contributedBy f).countAgree.actOnAdmit f).bus.slot ≠
      ((s.contributedBy f).countAgree.actOnAdmit f).stationNumber := by
    obtain ⟨_, _, _, _, hadmit⟩ := actOnAdmit_eq (s.contributedBy f).countAgree f
    rw [hadmit, contributedBy_eq]
    exact hown
  obtain ⟨hseated, htransfer⟩ := actOnFarewell_seated hadmitted hslot f
  refine ⟨hseated, (congrArg Transfer.receiving htransfer).trans (hreceiving.trans ?_)⟩
  rw [contributedBy_eq]
  rfl

theorem ownActedOn_seated (f : TallyFrame) :
    (s.ownActedOn f).Seated ∧ (s.ownActedOn f).transfer.receiving = s.transfer.receiving := by
  obtain ⟨g, -, hown⟩ := foldl_applyOwn f.sender f.contributions s
  have hcontributed : s.ownContributed f =
      (s.contributedBy f).withPosts ⟨s.posts.posts.map g, s.posts.nextTag⟩ := hown
  have hseated : (s.ownContributed f).Seated := by
    rw [hcontributed, contributedBy_eq]
    exact ⟨h.own, h.donor⟩
  obtain ⟨hadmitted, hreceiving⟩ := actOnAdmit_seated hseated f
  refine ⟨hadmitted, hreceiving.trans ?_⟩
  rw [hcontributed, contributedBy_eq]
  rfl

end

/-! ### The slot of another station -/

/-- R70: at most one dissent of a station outside the view. -/
theorem noteNonMember_dissent_le (s : State) (n : Nat) (v : Verdict) :
    (s.noteNonMember n v).agreement.dissent ≤ s.agreement.dissent + 1 := by
  obtain ⟨y, rfl⟩ | ⟨g, rfl⟩ | hsame := noteNonMember_cases n v
  · exact Nat.le_refl _
  · rw [noteNonMember_foreign, foreignHeard_eq]
    exact Nat.le_succ _
  · rw [hsame]
    exact Nat.le_succ _

section
variable {s : State} {bound : Nat} (hs : s.Poised bound) (hm : s.controller.state = .member)
include hs hm

theorem State.Poised.counted : s.agreement.agree + s.agreement.dissent ≤ bound :=
  (if_pos hm).mp hs.count

theorem acceptFrame_poised (hown : s.bus.slot ≠ s.stationNumber) (f : TallyFrame) :
    (s.acceptFrame f).Poised (bound + 1) := by
  obtain ⟨hseated, hreceiving⟩ := acceptedBy_seated (hs.seated hm) hown f
  obtain ⟨view, host, transfer, events, haccepted⟩ := acceptedBy_eq s f
  have hcounted := hs.counted hm
  rw [acceptFrame_eq]
  refine correctTimer_poised ?_
  rw [haccepted] at hseated hreceiving ⊢
  exact hs.inside hm rfl hreceiving hseated.own (by dsimp only; omega) hseated.donor hs.orderly

/-- R66 to R69: another station removed from the view. -/
theorem dropPeer_poised (hown : s.bus.slot ≠ s.stationNumber) (reason badReason : Nat) :
    (s.dropPeer s.bus.slot reason badReason).Poised bound := by
  have hseated := hs.seated hm
  rw [dropPeer_eq]
  exact hs.inside hm rfl rfl (stationIn_removeOther hseated hown) (hs.counted hm)
    (hseated.donor.remove s.bus.slot) hs.orderly

theorem countDissent_poised : s.countDissent.Poised (bound + 1) := by
  have hseated := hs.seated hm
  have hcounted := hs.counted hm
  exact hs.inside (agree := s.agreement.agree) (dissent := s.agreement.dissent + 1) hm rfl rfl
    hseated.own (by omega) hseated.donor hs.orderly

theorem memberSlot_poised (hown : s.bus.slot ≠ s.stationNumber) (v : Verdict) :
    (s.memberSlot s.bus.slot v).Poised (bound + 1) := by
  have hdissent : ∀ reason badReason,
      (s.countDissent.dropPeer s.bus.slot reason badReason).Poised (bound + 1) :=
    fun reason badReason =>
      dropPeer_poised (countDissent_poised hs hm) hm (by exact hown) reason badReason
  have hdropped : ∀ reason, (s.dropPeer s.bus.slot reason 0).Poised (bound + 1) :=
    fun reason => (dropPeer_poised hs hm hown reason 0).mono (Nat.le_succ bound)
  unfold State.memberSlot
  split
  · exact hdropped 1
  · exact hdissent 2 _
  · next f =>
    split
    · exact acceptFrame_poised hs hm hown f
    · exact hdissent 3 0
  · have hdrop := hdropped 4
    have hmember : (s.dropPeer s.bus.slot 4 0).controller.state = .member := by
      rw [dropPeer_eq]
      exact hm
    have hseated := hdrop.seated hmember
    have hout : stationIn (s.dropPeer s.bus.slot 4 0).agreement.view s.bus.slot = false := by
      rw [dropPeer_eq]
      show stationIn (stationRemove s.agreement.view s.bus.slot) s.bus.slot = false
      rw [stationIn_remove, decide_eq_true rfl]
      exact Bool.and_false _
    have hother : s.bus.slot ≠ (s.dropPeer s.bus.slot 4 0).stationNumber := by
      rw [dropPeer_eq]
      exact hown
    rw [joinRequest_eq]
    exact hdrop.inside hmember rfl rfl hseated.own (hdrop.counted hmember)
      (hseated.donor.request ⟨hs.slot_lt, hother, hout⟩) hdrop.orderly
  · exact hdissent 3 0

theorem nonMemberSlot_poised (hown : s.bus.slot ≠ s.stationNumber)
    (hout : stationIn s.agreement.view s.bus.slot = false) (v : Verdict) :
    (s.nonMemberSlot s.bus.slot v).Poised (bound + 1) := by
  have hseated := hs.seated hm
  have hcounted := hs.counted hm
  have hdissent := noteNonMember_dissent_le s s.bus.slot v
  rw [nonMemberSlot_eq, noteNonMember_eq]
  exact hs.inside hm rfl rfl hseated.own (by dsimp only; omega)
    (hseated.donor.verdict ⟨hs.slot_lt, hown, hout⟩ v) hs.orderly

theorem judgeMember_poised (hown : s.bus.slot ≠ s.stationNumber) (v : Verdict) :
    (s.judgeMember v).Poised (bound + 1) := by
  cases hin : stationIn s.agreement.view s.bus.slot with
  | true =>
    rw [judgeMember_inside hown hin]
    exact memberSlot_poised hs hm hown v
  | false =>
    rw [judgeMember_outside hown hin]
    exact nonMemberSlot_poised hs hm hown hin v

/-! ### The own slot -/

theorem ownActedOn_poised (f : TallyFrame) : (s.ownActedOn f).Poised bound ∧
    (s.posts.sentPosts = [] → (s.ownActedOn f).posts.sentPosts = []) := by
  obtain ⟨hseated, hreceiving⟩ := ownActedOn_seated (hs.seated hm) f
  obtain ⟨g, view, host, transfer, events, hg, hacted⟩ := ownActedOn_eq s f
  obtain ⟨horderly, hsent⟩ := hs.orderly.stored hg s.posts.nextTag
  rw [hacted] at hseated hreceiving ⊢
  refine ⟨hs.inside hm rfl hreceiving hseated.own (hs.counted hm) hseated.donor horderly,
    fun hunsent => hsent.trans ?_⟩
  rw [hunsent]
  rfl

/-- R77, R78: the own slot of a member, none of whose posts is SENT while it sends a FAREWELL. -/
theorem ownSlotEnd_poised (hfarewell : s.sendsFarewell = true → s.posts.sentPosts = []) (v : Verdict) :
    (s.ownSlotEnd v).Poised bound ∨ (s.ownSlotEnd v).Stopped := by
  by_cases htransmit : s.frameCheck.transmit = []
  · have hkept : s.ownSlotEnd v = s := if_pos htransmit
    rw [hkept]
    exact .inl hs
  · cases hloopback : s.loopbackIntact v with
    | none =>
      rw [ownSlotEnd_failed htransmit hloopback]
      exact .inr (hs.exclude_stopped hm .loopback)
    | some f =>
      obtain ⟨-, -, -, hread⟩ := loopbackIntact_some s v f hloopback
      cases f with
      | join j =>
        have hkept : s.ownSlotEnd v = s := by rw [State.ownSlotEnd, if_neg htransmit, hloopback]
        rw [hkept]
        exact .inl hs
      | tally f =>
        obtain ⟨hacted, hunsent⟩ := ownActedOn_poised hs hm f
        rw [ownSlotEnd_intact htransmit hloopback, ownFrameIntact_eq]
        split
        · next hleaves =>
          have hsends : s.sendsFarewell = true := by
            unfold State.sendsFarewell
            rw [hread]
            exact hleaves
          right
          rw [setView_eq]
          exact enterStandby_stopped (hacted.configured.congr rfl rfl) hacted.slot_lt hacted.failures_lt
            ⟨rfl, rfl, rfl⟩ hacted.orderly (hunsent (hfarewell hsends))
        · exact .inl hacted

end

/-! ### Any station in the schedule -/

/-- R28, R57, R74: how many slots of others a station has judged since its own slot start, once the slot in
progress is judged. -/
def State.slotsJudged (s : State) : Nat :=
  (s.bus.slot + s.stationCount - s.stationNumber) % s.stationCount

/-- R62: a lawful station in the schedule whose slot is judged. -/
theorem judgeSlot_poised {s : State} (hs : s.Sound) (hsync : s.bus.sync = true)
    (htx : s.bus.tx ≠ .sending) (v : Verdict) :
    (s.judgeSlot v).Poised s.slotsJudged ∨ (s.judgeSlot v).Stopped := by
  have hpoised := hs.poised hsync htx
  have hle : s.slotsSinceOwn ≤ s.slotsJudged := Nat.sub_le _ _
  have hmono : ∀ {t : State}, t.Poised s.slotsSinceOwn ∨ t.Stopped →
      t.Poised s.slotsJudged ∨ t.Stopped := fun h => h.imp_left (·.mono hle)
  cases hstate : s.controller.state with
  | listen =>
    simp only [State.judgeSlot, hstate]
    exact hmono (.inl (judgeListen_poised hpoised v))
  | joining =>
    simp only [State.judgeSlot, hstate]
    refine hmono ?_
    split
    · exact ownJoinEnd_poised hpoised (by rw [hstate]; decide) v
    · exact .inl (judgeJoining_poised hpoised hstate v)
  | receiving =>
    simp only [State.judgeSlot, hstate]
    refine hmono ?_
    split
    · exact ownJoinEnd_poised hpoised (by rw [hstate]; decide) v
    · exact judgeReceiving_poised hpoised v
  | member =>
    by_cases hown : s.bus.slot = s.stationNumber
    · obtain ⟨-, -, hfarewell⟩ := (postLaw_iff s).mp hs.post
      rw [judgeSlot_own hstate hown]
      exact hmono (ownSlotEnd_poised hpoised hstate hfarewell v)
    · obtain ⟨h2, h16, hlt⟩ := hpoised.configured.counts
      have hslot := hpoised.slot
      have hsucc : s.slotsSinceOwn + 1 ≤ s.slotsJudged := by
        have hpos : 0 < s.slotsJudged := Nat.pos_of_ne_zero fun hzero => hown ?_
        · show s.slotsJudged - 1 + 1 ≤ s.slotsJudged
          omega
        · unfold State.slotsJudged at hzero
          by_cases hge : s.stationNumber ≤ s.bus.slot
          · have hsplit : s.bus.slot + s.stationCount - s.stationNumber =
                (s.bus.slot - s.stationNumber) + s.stationCount := by omega
            rw [hsplit, Nat.add_mod_right, Nat.mod_eq_of_lt (by omega)] at hzero
            omega
          · rw [Nat.mod_eq_of_lt (by omega)] at hzero
            omega
      simp only [State.judgeSlot, hstate]
      exact .inl ((judgeMember_poised hpoised hstate hown v).mono hsucc)
  | unconfigured => exact absurd hpoised.active (by rw [hstate]; decide)
  | ready => exact absurd hpoised.active (by rw [hstate]; decide)
  | standby => exact absurd hpoised.active (by rw [hstate]; decide)
  | halted => exact absurd hpoised.active (by rw [hstate]; decide)

end Sys2Proof.Machine
end

section
/-! PROOF. What a lawful station supplies at its own slot start (R54, R55, R75, R76, R107, R108, R135): the
laws hold of it whether it sends a frame of its own, nothing, or leaves the schedule. -/

namespace Sys2Proof.Machine

-- One theorem after another: each proof checked beside another takes a thread with memory of its own.
set_option Elab.async false

/-! ### A supplied frame -/

/-- R34, R54, R55: a station in its own slot, with fresh counts, that is supplied a frame it may send. -/
theorem State.Poised.supplied {s : State} (hs : s.Poised 0) (hslot : s.bus.slot = s.stationNumber)
    {f : Frame} (hwf : f.WellFormed) (hown : s.ownFrame f = true)
    (hfarewell : ∀ x, f = .tally x → x.farewell = true → s.posts.sentPosts = []) :
    (s.loadFrame f.bytes).Sound := by
  have hread : readFrame (s.loadFrame f.bytes).frameCheck.transmit = some f :=
    f.bytes_eq ▸ readFrame_body hwf _
  have hconfigured : s.controller.state ≠ .unconfigured := fun h => by
    have := hs.active
    rw [h] at this
    cases this
  have hcount := hs.count
  refine
    { config := hs.configured.configLaw hconfigured
      failure := hs.failure
      view := hs.view
      count := ?_
      post := (postLaw_iff _).mpr ⟨hs.orderly, hs.unsent, fun h => ?_⟩
      schedule := ⟨hs.slot_lt, fun _ => hs.slot, fun _ => hs.active, fun _ => hs.sync⟩
      quiet := fun h => ?_
      timer := hs.timer
      leave := ⟨hs.pendingLeave, fun h => ?_⟩
      send := ⟨Nat.zero_le _, ⟨fun h => (by cases h), fun h => absurd h f.bytes_ne_nil⟩, fun _ =>
        ⟨hs.sync, hslot, ?_⟩⟩
      join := hs.join
      serving := hs.serving
      receiving := hs.receiving }
  · unfold State.CountLaw
    split
    · next h =>
      rw [if_pos (by exact h)] at hcount
      exact Nat.le_trans hcount (Nat.zero_le _)
    · next h =>
      rw [if_neg (by exact h)] at hcount
      exact hcount
  · unfold State.sendsFarewell at h
    rw [hread] at h
    cases f with
    | join j => cases h
    | tally x => exact hfarewell x rfl h
  · exact absurd hs.active (ne_true_of_eq_false h)
  · exact absurd h (ne_true_of_eq_false hs.leaveAtTxEnd)
  · rw [hread]
    exact congrArg some hown

/-- R43, R49: the station's own numbers in a frame of its own kind. -/
theorem ownFrame_join {s : State} (hstate : s.controller.state = .joining ∨
    s.controller.state = .receiving) (expect : Option Nat) : s.ownFrame (s.joinFrame expect) = true := by
  obtain h | h := hstate <;>
    simp [State.ownFrame, State.joinFrame, Frame.sender, Frame.round, Frame.tag, h]

theorem ownFrame_tally {s : State} (hstate : s.controller.state = .member) {x : TallyFrame}
    (hsender : x.sender = s.stationNumber) (hround : x.round = s.bus.round)
    (htag : x.tag = s.configTag) : s.ownFrame (.tally x) = true := by
  simp [State.ownFrame, Frame.sender, Frame.round, Frame.tag, hstate, hsender, hround, htag]

/-! ### A joiner's own slot start -/

theorem loadJoin_sound {s : State} (hs : s.Poised 0) (hslot : s.bus.slot = s.stationNumber)
    (hstate : s.controller.state = .joining ∨ s.controller.state = .receiving) {expect : Option Nat}
    (hexpect : ∀ e ∈ expect, e % 4 = 0 ∧ e ≤ 28) : (s.loadJoin expect).Sound := by
  have hwf : (s.joinFrame expect).WellFormed := by
    refine ⟨hs.number_lt, ?_⟩
    cases expect with
    | none => exact trivial
    | some e => exact hexpect e rfl
  exact hs.supplied hslot hwf (ownFrame_join hstate expect) fun x hx => by cases hx

theorem joiningStep_sound {s : State} (hs : s.Poised 0) (hslot : s.bus.slot = s.stationNumber)
    (hstate : s.controller.state = .joining) : s.joiningStep.Sound := by
  have hm : s.controller.state ≠ .member := by rw [hstate]; decide
  have hnotReceiving := hs.notReceiving (by rw [hstate]; decide)
  unfold State.joiningStep
  split
  · next hlt =>
    refine loadJoin_sound (s := { s with controller := { s.controller with
      joinTimer := s.controller.joinTimer + 1 } }) ?_ hslot (.inl hstate) (expect := none)
      fun e he => absurd he (Option.not_mem_none e)
    refine hs.outside (st := .joining) (failures := s.controller.failures)
      (joinTimer := s.controller.joinTimer + 1) hm (.inl rfl)
      (hs.listenTimer (by rw [hstate]; decide)) (by rw [← hstate]; rfl) hs.failures_lt
      ⟨fun h => absurd rfl h, hlt⟩ ?_
    show match s.transfer.receiving with | none => _ | some r => _
    rw [hnotReceiving]
    exact fun h => by cases h
  · have hkept : s.setReceiving none = s := by
      show { s with transfer := { s.transfer with receiving := none } } = s
      rw [← hnotReceiving]
    have hstopped := hs.failToListen_stopped hm .joinTimeout
    rw [hkept] at hstopped
    exact hstopped.sound

theorem leaveListen_sound {s : State} (hs : s.Poised 0) (hslot : s.bus.slot = s.stationNumber)
    (hstate : s.controller.state = .listen) : s.leaveListen.Sound := by
  have hnotReceiving := hs.notReceiving (by rw [hstate]; decide)
  refine joiningStep_sound ?_ hslot rfl
  refine hs.outside (st := .joining) (failures := s.controller.failures) (joinTimer := 0)
    (by rw [hstate]; decide) (.inl rfl) rfl rfl hs.failures_lt (by decide) ?_
  show match s.transfer.receiving with | none => _ | some r => _
  rw [hnotReceiving]
  exact fun h => by cases h

/-! ### A member's own slot start -/

/-- R75, R92: the SENT posts settled, the counts at 0, the failure count at 0 but for a founder. -/
theorem settled_poised {s : State} {bound : Nat} (hs : s.Poised bound)
    (hm : s.controller.state = .member) (founder : Bool) :
    (s.settlePosts.clearCounts.clearFailures founder).Poised 0 ∧
      (s.settlePosts.clearCounts.clearFailures founder).posts.sentPosts = [] := by
  have hfailures : ∀ n ≤ s.controller.failures, n ≤ 8 ∧ (n = 8 ↔ s.controller.state = .halted) := by
    intro n hn
    have hlt := hs.failures_lt
    exact ⟨by omega, fun h => by omega, fun h => by rw [hm] at h; cases h⟩
  have hsettled : ∀ n ≤ s.controller.failures, State.Poised { s with
      posts := { s.posts with posts := s.posts.queuedPosts }
      agreement := { s.agreement with agree := 0, dissent := 0 }
      controller := { s.controller with failures := n }
      events := arrived s.events (s.posts.sentPosts.map s.settledEvent) } 0 := fun n hn =>
    { hs with
      failure := hfailures n hn
      count := (if_pos hm).mpr (Nat.le_refl 0)
      orderly := hs.orderly.queuedOnly _
      unsent := fun _ => sentPosts_queuedOnly _ _ }
  have hunsent := sentPosts_queuedOnly s.posts s.posts.nextTag
  rw [settlePosts_eq]
  cases founder with
  | true => exact ⟨hsettled _ (Nat.le_refl _), hunsent⟩
  | false => exact ⟨hsettled 0 (Nat.zero_le _), hunsent⟩

section
variable {s : State} (hs : s.Poised 0) (hm : s.controller.state = .member)
  (hslot : s.bus.slot = s.stationNumber) (hunsent : s.posts.sentPosts = [])
include hs hm hslot hunsent

theorem buildFarewell_sound : s.buildFarewell.Sound := by
  have hseated := hs.seated hm
  have hended : s.endService.Poised 0 :=
    hs.inside hm rfl rfl hseated.own (hs.counted hm)
      ⟨hseated.donor.nodup, hseated.donor.queue, fun _ h => absurd h (Option.not_mem_none _)⟩ hs.orderly
  have hwf : s.farewellFrame.WellFormed :=
    ⟨hs.number_lt, Nat.zero_le _, fun _ => ⟨rfl, rfl⟩, trivial⟩
  exact hended.supplied hslot hwf (ownFrame_tally hm rfl rfl rfl) fun _ _ _ => hunsent

theorem buildTally_sound : s.buildTally.Sound := by
  have hseated := hs.seated hm
  obtain ⟨hdonor, hsection⟩ := donorDecision_sound hseated.donor
  have hdecided := donorDecision_eq s
  have hnumber : s.donorDecision.1.stationNumber = s.stationNumber := by rw [hdecided]; rfl
  have hpacked : s.donorDecision.1.packed.Poised 0 := by
    rw [hdecided]
    exact hs.inside hm rfl rfl hseated.own (hs.counted hm) (hdonor.congr rfl rfl)
      (hs.orderly.packed hunsent s.bus.round s.posts.nextTag)
  have hmember : s.donorDecision.1.packed.controller.state = .member := by rw [hdecided]; exact hm
  have hown : s.donorDecision.1.packed.bus.slot = s.donorDecision.1.packed.stationNumber := by
    rw [hdecided]
    exact hslot
  have hwf : (s.donorDecision.1.tallyFrame s.donorDecision.1.packedContributions
      s.donorDecision.2).WellFormed := by
    refine ⟨hnumber ▸ hs.number_lt, ?_, fun h => ?_, ?_⟩
    · show (List.map _ (List.take 4 _)).length ≤ 4
      rw [List.length_map, List.length_take]
      exact Nat.min_le_left _ _
    · cases h
    · dsimp only
      split
      · next x hx =>
        obtain ⟨hlt, hne, hfirst⟩ := hsection x hx
        exact ⟨hlt, hnumber.symm ▸ hne, hfirst⟩
      · exact trivial
  exact hpacked.supplied hown hwf (ownFrame_tally hmember rfl rfl rfl) fun x hx h => by
    cases hx
    cases h

end

/-- R75: an evaluation that keeps the station. -/
theorem keepInView_sound {s : State} {bound : Nat} (hs : s.Poised bound)
    (hm : s.controller.state = .member) (hslot : s.bus.slot = s.stationNumber) (founder : Bool) :
    (s.keepInView founder).Sound := by
  obtain ⟨hsettled, hunsent⟩ := settled_poised hs hm founder
  have hline : (s.settlePosts.clearCounts.clearFailures founder).controller.state = .member ∧
      (s.settlePosts.clearCounts.clearFailures founder).bus.slot =
        (s.settlePosts.clearCounts.clearFailures founder).stationNumber := by
    rw [settlePosts_eq]
    cases founder <;> exact ⟨hm, hslot⟩
  obtain ⟨hmember, hown⟩ := hline
  unfold State.keepInView
  dsimp only
  split
  · exact buildFarewell_sound hsettled hmember hown hunsent
  · exact buildTally_sound hsettled hmember hown hunsent

theorem ownSlotEvaluation_sound {s : State} {bound : Nat} (hs : s.Poised bound)
    (hm : s.controller.state = .member) (hslot : s.bus.slot = s.stationNumber) (founder : Bool) :
    (s.ownSlotEvaluation founder).Sound := by
  unfold State.ownSlotEvaluation
  split
  · exact (hs.exclude_stopped hm .excluded).sound
  · exact keepInView_sound hs hm hslot founder

/-! ### Any station's own slot start -/

/-- R27: the own slot start. -/
theorem signalOwnSlot_sound {s : State} {bound : Nat} (hs : s.Poised bound)
    (hbound : s.bus.slot ≠ s.stationNumber → bound ≤ s.slotsSinceOwn) (htx : s.bus.tx = .idle)
    (htransmit : s.frameCheck.transmit = []) (hloopback : s.bus.loopback.length ≤ 93) :
    s.signalOwnSlot.Sound := by
  by_cases hslot : s.bus.slot = s.stationNumber
  · have houtside : s.controller.state ≠ .member → s.Poised 0 := fun hm => by
      obtain ⟨-, hagree, hdissent, -⟩ := hs.outsider hm
      exact { hs with count := (if_neg hm).mpr ⟨hagree, hdissent⟩ }
    rw [signalOwnSlot_own hslot]
    unfold State.ownSlotStart
    split
    · next hstate =>
      have hpoised := houtside (by rw [hstate]; decide)
      split
      · exact leaveListen_sound hpoised hslot hstate
      · exact hpoised.sound (fun _ => Nat.zero_le _) htx htransmit hloopback
    · next hstate => exact joiningStep_sound (houtside (by rw [hstate]; decide)) hslot hstate
    · next hstate =>
      have hpoised := houtside (by rw [hstate]; decide)
      unfold State.receivingStep
      split
      · next r hr =>
        obtain ⟨-, hmod, -, hle⟩ := hpoised.receivingRecord hr
        refine loadJoin_sound hpoised hslot (.inr hstate) fun e he => ?_
        cases he
        exact ⟨hmod, hle⟩
      · exact hpoised.sound (fun _ => Nat.zero_le _) htx htransmit hloopback
    · next hstate => exact ownSlotEvaluation_sound hs hstate hslot false
    all_goals
      next hstate => exact absurd hs.active (by rw [hstate]; decide)
  · rw [signalOwnSlot_other hslot]
    exact hs.sound (fun _ => hbound hslot) htx htransmit hloopback

/-! ### The slot boundary -/

theorem nextSlot_lt {s : State} (h : s.bus.slot < s.stationCount) : s.nextSlot < s.stationCount := by
  unfold State.nextSlot
  split
  · assumption
  · omega

/-- R27, R74: the slots judged since the own one, counted in the next slot. -/
theorem slotsJudged_next {s : State} (hslot : s.bus.slot < s.stationCount)
    (hnumber : s.stationNumber < s.stationCount) (hother : s.nextSlot ≠ s.stationNumber) :
    s.slotsJudged = (s.nextSlot + s.stationCount - s.stationNumber) % s.stationCount - 1 := by
  have hmod : ∀ a, s.stationNumber ≤ a → a < s.stationCount →
      (a + s.stationCount - s.stationNumber) % s.stationCount = a - s.stationNumber := by
    intro a hle hlt
    have hsplit : a + s.stationCount - s.stationNumber =
        (a - s.stationNumber) + s.stationCount := by omega
    rw [hsplit, Nat.add_mod_right, Nat.mod_eq_of_lt (by omega)]
  have hbelow : ∀ a, a < s.stationNumber →
      (a + s.stationCount - s.stationNumber) % s.stationCount =
        a + s.stationCount - s.stationNumber := fun a hlt => Nat.mod_eq_of_lt (by omega)
  unfold State.slotsJudged
  by_cases hwrap : s.bus.slot + 1 < s.stationCount
  · have hnext : s.nextSlot = s.bus.slot + 1 := if_pos hwrap
    rw [hnext] at hother ⊢
    by_cases hle : s.stationNumber ≤ s.bus.slot
    · rw [hmod _ hle hslot, hmod _ (by omega) hwrap]
      omega
    · rw [hbelow _ (by omega), hbelow _ (by omega)]
      omega
  · have hnext : s.nextSlot = 0 := if_neg hwrap
    rw [hnext] at hother ⊢
    rw [hmod _ (by omega) hslot, hbelow _ (by omega)]
    omega

/-- R27, R28, R62: the boundary of a slot no frame is on the line in. -/
theorem slotBoundary_sound {s : State} (hs : s.Sound) (hsync : s.bus.sync = true)
    (htx : s.bus.tx ≠ .sending) : s.slotBoundary.Sound := by
  have hline := (judgeSlot_sameLine s s.slotVerdict).slot
  have hconfig : (s.judgeSlot s.slotVerdict).config = s.config :=
    congrArg Lasting.config (judgeSlot_endures s s.slotVerdict).lasting
  have hcounts : ∀ {t : State}, t.config = s.config → t.stationCount = s.stationCount ∧
      t.stationNumber = s.stationNumber := fun h => by
    unfold State.stationCount State.stationNumber
    rw [h]
    exact ⟨rfl, rfl⟩
  have hjudged := judgeSlot_poised hs hsync htx s.slotVerdict
  unfold State.slotBoundary
  dsimp only
  generalize s.judgeSlot s.slotVerdict = judged at hline hconfig hjudged ⊢
  obtain ⟨hcount, hnumber⟩ := hcounts hconfig
  obtain hpoised | hstopped := hjudged
  · obtain ⟨-, -, hown⟩ := hpoised.configured.counts
    have hslot := hpoised.slot
    rw [if_pos hpoised.sync]
    refine signalOwnSlot_sound (bound := s.slotsJudged) (s := judged.beginNextSlot)
      { hpoised with slot := nextSlot_lt hslot } (fun hother => ?_) rfl rfl (Nat.zero_le _)
    have hcounted := slotsJudged_next hslot hown hother
    have hsame : judged.slotsJudged = s.slotsJudged := by
      unfold State.slotsJudged
      rw [hcount, hnumber, hline]
    exact Nat.le_of_eq (hsame.symm.trans hcounted)
  · obtain ⟨-, h16, -⟩ := hstopped.configured.counts
    obtain ⟨slot, round, hleft, hnumbers⟩ := numbersOnLeaving_eq judged
    obtain ⟨-, hlt, -⟩ := hs.schedule
    have hslot : judged.bus.slot < judged.stationCount := by
      rw [hline, hcount]
      exact hlt hsync
    rw [if_neg (ne_true_of_eq_false hstopped.sync), hleft]
    refine hstopped.sound.renumbered hstopped.sync ?_ round
    obtain ⟨rfl, -⟩ | ⟨rfl, -⟩ := hnumbers
    · exact hstopped.slot
    · exact Nat.lt_of_lt_of_le (nextSlot_lt hslot) h16

end Sys2Proof.Machine
end

section
/-! PROOF. Every command of the bus side keeps the laws of the station (R24 to R37, R103 to R105). -/

namespace Sys2Proof.Machine

-- One theorem after another: each proof checked beside another takes a thread with memory of its own.
set_option Elab.async false

/-! ### Time and the line -/

theorem passTime_sound {s : State} (hs : s.Sound) (n : Nat) : (s.passTime n).Sound := by
  obtain ⟨hloopback, -⟩ := hs.send
  obtain ⟨-, hstopped, -⟩ := hs.timer
  refine hs.steady rfl hloopback (fun hstate => ?_) (fun hstate => ?_) fun hpassive => ?_
  · show s.listenAfter n ≤ (s.rxd.later n).highAfter 0
    rw [later_highAfter, listenAfter_listen (s := s) hstate]
    exact Nat.min_le_right _ _
  · exact (listenAfter_of_ne (s := s) hstate n).trans (hstopped hstate)
  · obtain ⟨hrun, -, hreceive, -⟩ := hs.quiet hpassive
    exact ⟨passTime_noRun hrun n, hreceive⟩

/-- A step in the schedule or in LISTEN that reaches only what has been heard. -/
theorem State.Sound.hearing {s t : State} (hs : s.Sound) (hactive : s.controller.state.active = true)
    (hcore : t.core = s.core) (hloopback : t.bus.loopback.length ≤ 93)
    (hcontroller : t.controller = s.controller) (hrxd : t.rxd = s.rxd) : t.Sound := by
  obtain ⟨hlisten, hstopped, -⟩ := hs.timer
  refine hs.steady hcore hloopback (by rw [hcontroller, hrxd]; exact hlisten)
    (by rw [hcontroller]; exact hstopped) fun hpassive => ?_
  rw [hcontroller, hactive] at hpassive
  cases hpassive

theorem foreignHeard_sound {s : State} (hs : s.Sound) (hactive : s.controller.state.active = true)
    (n : Nat) (tag : Byte) : (s.foreignHeard n tag).Sound := by
  obtain ⟨hloopback, -⟩ := hs.send
  rw [foreignHeard_eq]
  exact hs.hearing hactive rfl hloopback rfl rfl

/-! ### Synchronisation -/

/-- R102, R105: an active station outside the schedule listens, and sends nothing. -/
theorem State.Sound.unsynchronised {s : State} (hs : s.Sound)
    (hactive : s.controller.state.active = true) (hsync : s.bus.sync = false) :
    s.controller.state = .listen ∧ s.bus.tx = .idle ∧ s.frameCheck.transmit = [] := by
  obtain ⟨-, -, -, hscheduled⟩ := hs.schedule
  obtain ⟨-, hidle, hsends⟩ := hs.send
  have htx : s.bus.tx = .idle := by
    by_contra h
    exact ne_true_of_eq_false hsync (hsends h).1
  refine ⟨?_, htx, hidle.mp htx⟩
  have hout : ∀ st : StationState, st = .joining ∨ st = .receiving ∨ st = .member →
      s.controller.state ≠ st := fun st hst heq =>
    ne_true_of_eq_false hsync (hscheduled (heq ▸ hst))
  cases hstate : s.controller.state with
  | listen => rfl
  | joining => exact absurd hstate (hout _ (.inl rfl))
  | receiving => exact absurd hstate (hout _ (.inr (.inl rfl)))
  | member => exact absurd hstate (hout _ (.inr (.inr rfl)))
  | _ => rw [hstate] at hactive; cases hactive

theorem synchronise_sound {s : State} (hs : s.Sound) (hactive : s.controller.state.active = true)
    (hsync : s.bus.sync = false) {f : TallyFrame} (hsender : f.sender < s.stationCount) (age : Nat) :
    (s.synchronise f age).Sound := by
  obtain ⟨hstate, htx, htransmit⟩ := hs.unsynchronised hactive hsync
  have hm : s.controller.state ≠ .member := by rw [hstate]; decide
  obtain ⟨hview, hagree, hdissent, hunsent, hpending, -, -⟩ := hs.outsider hm
  obtain ⟨horderly, -⟩ := (postLaw_iff s).mp hs.post
  obtain ⟨hlisten, hstopped, hjoin, hjoin8, -⟩ := hs.timer
  obtain ⟨hloopback, -⟩ := hs.send
  obtain ⟨-, hatEnd⟩ := hs.leave
  have hpoised : (s.synchronise f age).Poised 0 :=
    { configured := (configured_of_configLaw hs.config (by rw [hstate]; decide)).congr rfl rfl
      failure := hs.failure
      view := hs.view
      count := (if_neg hm).mpr ⟨hagree, hdissent⟩
      orderly := horderly
      unsent := fun _ => hunsent
      sync := rfl
      slot := hsender
      active := hactive
      timer := ⟨hlisten, hstopped, hjoin, hjoin8, Nat.zero_le _⟩
      pendingLeave := fun h => absurd h (ne_true_of_eq_false hpending)
      leaveAtTxEnd := Bool.eq_false_iff.mpr fun h => by
        obtain ⟨-, hsending⟩ := hatEnd h
        rw [htx] at hsending
        cases hsending
      join := hs.join
      serving := hs.serving
      receiving := hs.receiving }
  exact hpoised.sound (fun _ => Nat.zero_le _) htx htransmit hloopback

/-- R51: a frame heard without slots whose tag matches comes from a station of the cluster. -/
theorem judgeRun_sender {count length : Nat} {tag : Byte} {lowStop : Bool} {bytes : List Byte} {f : Frame}
    (h : judgeRun none count tag length lowStop bytes = .intact f true) : f.sender < count := by
  obtain ⟨-, -, -, -, -, hfits, hread, htag⟩ := judgeRun_intact _ _ _ _ _ _ _ _ h
  obtain ⟨hwf, rest, rfl⟩ := body_of_readFrame hread
  obtain ⟨-, hsender, hbyte⟩ := Frame.body_head hwf rest
  rw [senderFits_noSlot, hsender, hbyte, ← htag, Bool.true_and] at hfits
  simpa using hfits

theorem unsynchronisedFrame_sound {s : State} (hs : s.Sound)
    (hactive : s.controller.state.active = true) (hsync : s.bus.sync = false) {v : Verdict}
    (hsender : ∀ f, v = .intact f true → f.sender < s.stationCount) (age : Nat) :
    (s.unsynchronisedFrame v age).Sound := by
  unfold State.unsynchronisedFrame
  split
  · next f => exact synchronise_sound hs hactive hsync (hsender (.tally f) rfl) age
  · exact hs
  · exact foreignHeard_sound hs hactive _ _
  · exact hs
  · exact hs

/-! ### Runs -/

theorem endRun_none {s : State} (h : s.bus.run = none) : s.endRun = s := by
  simp only [State.endRun, h]

theorem endRun_sound {s : State} (hs : s.Sound) (hactive : s.controller.state.active = true) :
    s.endRun.Sound := by
  obtain ⟨hloopback, -⟩ := hs.send
  cases hrun : s.bus.run with
  | none =>
    rw [endRun_none hrun]
    exact hs
  | some r =>
    cases hsync : s.bus.sync with
    | true =>
      rw [endRun_synchronised hsync hrun]
      exact hs.hearing hactive rfl hloopback rfl rfl
    | false =>
      cases hframe : r.isFrame with
      | false =>
        rw [endRun_followed hrun hframe]
        exact hs.hearing hactive rfl hloopback rfl rfl
      | true =>
        rw [endRun_unsynchronised hsync hrun hframe]
        have hclosed : State.Sound { s with
            bus := { s.bus with run := none }, frameCheck := { s.frameCheck with receive := [] } } :=
          hs.hearing hactive rfl hloopback rfl rfl
        refine unsynchronisedFrame_sound hclosed hactive hsync (fun f hf => ?_) r.age
        rw [State.runVerdict, if_neg (ne_true_of_eq_false hsync)] at hf
        exact judgeRun_sender hf

theorem endRunIfOver_sound {s : State} (hs : s.Sound) (hactive : s.controller.state.active = true) :
    s.endRunIfOver.Sound := by
  unfold State.endRunIfOver
  split
  · exact endRun_sound hs hactive
  · exact hs

theorem capturing_length {loopback : List Byte} (h : loopback.length ≤ 93) (tx : TxPhase) (b : Byte) :
    (capturing tx loopback b).length ≤ 93 := by
  unfold capturing
  split
  · next hroom =>
    rw [List.length_append, List.length_singleton]
    exact hroom.2
  · exact h

/-- R24, R37: a start bit in an active station. -/
theorem startCharacter_sound {s : State} (hs : s.Sound) (hactive : s.controller.state.active = true)
    (fall : RxdFall) : ((s.noteFall fall).startCharacter fall.samples).Sound := by
  obtain ⟨hloopback, -⟩ := hs.send
  obtain ⟨-, hstopped, -⟩ := hs.timer
  obtain ⟨start, further, run, receive, h⟩ := startCharacter_eq (s.noteFall fall) fall.samples
  rw [h]
  refine hs.steady rfl (capturing_length hloopback _ _) (fun hstate => ?_) (fun hstate => ?_)
    fun hpassive => ?_
  · exact Nat.le_trans (Nat.le_of_eq (if_pos hstate)) (Nat.zero_le _)
  · exact (if_neg hstate).trans (hstopped hstate)
  · exact absurd hactive (ne_true_of_eq_false hpassive)

/-- R105: the end of a run leaves the station in its state. -/
theorem endRunIfOver_state (s : State) : s.endRunIfOver.controller.state = s.controller.state := by
  unfold State.endRunIfOver State.endRun
  split
  · split
    · rfl
    · dsimp only
      split
      · split
        · rfl
        · obtain ⟨_, _, _, _, _, _, -, h⟩ := unsynchronisedFrame_eq _ _ _
          rw [h]
      · rfl
  · rfl

theorem fallOnRxd_sound {s : State} (hs : s.Sound) (gap : Nat) (fall : RxdFall) :
    (s.fallOnRxd gap fall).Sound := by
  have hpassed := passTime_sound hs (s.timeToGap gap)
  cases hstart : startBit fall.samples with
  | false => exact fallOnRxd_glitch hstart s gap ▸ hpassed
  | true =>
    cases hactive : s.controller.state.active with
    | true =>
      have hstill : (s.passTime (s.timeToGap gap)).endRunIfOver.controller.state.active = true := by
        rw [endRunIfOver_state]
        exact hactive
      rw [fallOnRxd_active hstart hactive]
      exact startCharacter_sound (endRunIfOver_sound hpassed hactive) hstill fall
    | false =>
      obtain ⟨hrun, -, hreceive, -⟩ := hpassed.quiet hactive
      obtain ⟨hloopback, -⟩ := hpassed.send
      obtain ⟨-, hstopped, -⟩ := hpassed.timer
      rw [fallOnRxd_passive hstart hactive]
      refine hpassed.steady rfl hloopback (fun hstate => ?_) hstopped fun _ => ⟨hrun, hreceive⟩
      have hlisten : s.controller.state = .listen := hstate
      rw [hlisten] at hactive
      cases hactive

theorem runOver_sound {s : State} (hs : s.Sound) (hactive : s.controller.state.active = true)
    (gap : Nat) : (s.runOver gap).Sound := by
  cases hrun : s.bus.run with
  | none =>
    have hkept : s.runOver gap = s := by simp only [State.runOver, hrun]
    exact hkept.symm ▸ hs
  | some r =>
    rw [runOver_eq hrun]
    exact endRun_sound (passTime_sound hs _) hactive

/-! ### The own transmission -/

theorem ownTransmissionStart_sound {s : State} (hs : s.Sound) (htx : s.bus.tx = .built) :
    State.Sound { s with bus := { s.bus with tx := .sending } } := by
  obtain ⟨hloopback, hidle, hsends⟩ := hs.send
  obtain ⟨hpending, hatEnd⟩ := hs.leave
  have hbusy : s.bus.tx ≠ .idle := by rw [htx]; decide
  refine { hs with
    quiet := fun hpassive => ?_
    leave := ⟨hpending, fun h => ?_⟩
    send := ⟨hloopback, ⟨fun h => (by cases h), fun h => absurd (hidle.mpr h) hbusy⟩,
      fun _ => hsends hbusy⟩ }
  · obtain ⟨-, hquiet, -⟩ := hs.quiet hpassive
    exact absurd hquiet hbusy
  · obtain ⟨-, hsending⟩ := hatEnd h
    rw [htx] at hsending
    cases hsending

/-- R34: the own frame is off the line, and no LEAVE waits for that. -/
theorem transmissionEnd_sound {s : State} (hs : s.Sound) (htx : s.bus.tx = .sending) :
    State.Sound { s with
      bus := { s.bus with tx := .sent }
      controller := { s.controller with leaveAtTxEnd := false } } := by
  obtain ⟨hloopback, hidle, hsends⟩ := hs.send
  obtain ⟨hpending, -⟩ := hs.leave
  have hbusy : s.bus.tx ≠ .idle := by rw [htx]; decide
  refine { hs with
    quiet := fun hpassive => ?_
    leave := ⟨hpending, fun h => by cases h⟩
    send := ⟨hloopback, ⟨fun h => (by cases h), fun h => absurd (hidle.mpr h) hbusy⟩,
      fun _ => hsends hbusy⟩ }
  obtain ⟨-, hquiet, -⟩ := hs.quiet hpassive
  exact absurd hquiet hbusy

/-- R112, R114: a station outside the view that leaves for STANDBY. -/
theorem State.Sound.leaves {s : State} (hs : s.Sound) (hactive : s.controller.state.active = true)
    (hm : s.controller.state ≠ .member) : s.enterStandby.Stopped := by
  obtain ⟨hview, hagree, hdissent, hunsent, -⟩ := hs.outsider hm
  obtain ⟨horderly, -⟩ := (postLaw_iff s).mp hs.post
  obtain ⟨hslot, -⟩ := hs.schedule
  obtain ⟨hle, h8⟩ := hs.failure
  have hne : s.controller.state ≠ .unconfigured ∧ s.controller.state ≠ .halted :=
    ⟨fun h => (by rw [h] at hactive; cases hactive), fun h => by rw [h] at hactive; cases hactive⟩
  exact enterStandby_stopped (configured_of_configLaw hs.config hne.1) hslot
    (Nat.lt_of_le_of_ne hle fun h => hne.2 (h8.mp h)) ⟨hview, hagree, hdissent⟩ horderly hunsent

theorem finishTransmission_sound {s : State} (hs : s.Sound) (htx : s.bus.tx = .sending) :
    s.finishTransmission.Sound ∧ s.finishTransmission.bus.tx ≠ .sending := by
  have hended := transmissionEnd_sound (passTime_sound hs (s.timeToReading s.transmissionEndsAt)) htx
  cases hleave : s.controller.leaveAtTxEnd with
  | false =>
    rw [finishTransmission_plain hleave]
    have hkept : { (s.passTo s.transmissionEndsAt).controller with leaveAtTxEnd := false } =
        (s.passTo s.transmissionEndsAt).controller :=
      congrArg (fun x => { (s.passTo s.transmissionEndsAt).controller with leaveAtTxEnd := x })
        hleave.symm
    refine ⟨?_, fun h => by cases h⟩
    have hended : State.Sound { s.passTo s.transmissionEndsAt with
      bus := { (s.passTo s.transmissionEndsAt).bus with tx := .sent }
      controller := { (s.passTo s.transmissionEndsAt).controller with leaveAtTxEnd := false } } := hended
    rw [hkept] at hended
    exact hended
  | true =>
    obtain ⟨-, hatEnd⟩ := hs.leave
    obtain ⟨hstate, -⟩ := hatEnd hleave
    have hjoiner : s.controller.state.active = true ∧ s.controller.state ≠ .member := by
      obtain h | h := hstate <;> rw [h] <;> decide
    obtain ⟨hactive, hm⟩ := hjoiner
    have hstopped := hended.leaves (by exact hactive) (by exact hm)
    rw [finishTransmission_leave hleave]
    refine ⟨State.Stopped.sound ?_, ?_⟩
    · rw [enterStandby_eq] at hstopped ⊢
      exact hstopped
    · rw [enterStandby_eq]
      exact fun h => by cases h

/-! ### The slot end -/

theorem endSlot_sound {s : State} (hs : s.Sound) : s.endSlot.Sound := by
  have hfinished : (if s.bus.tx = .sending then s.finishTransmission else s).Sound ∧
      (if s.bus.tx = .sending then s.finishTransmission else s).bus.tx ≠ .sending := by
    split
    · next htx => exact finishTransmission_sound hs htx
    · next htx => exact ⟨hs, htx⟩
  obtain ⟨hfinished, htx⟩ := hfinished
  unfold State.endSlot
  dsimp only
  generalize (if s.bus.tx = .sending then s.finishTransmission else s) = u at hfinished htx ⊢
  split
  · next hsync =>
    obtain ⟨-, -, hactive, -⟩ := hfinished.schedule
    have hpassed : (u.passTo u.slotSixteenths).Sound := passTime_sound hfinished _
    have hended := endRunIfOver_sound hpassed (hactive hsync)
    have hline : (u.passTo u.slotSixteenths).endRunIfOver.bus.sync = true ∧
        (u.passTo u.slotSixteenths).endRunIfOver.bus.tx = u.bus.tx := by
      unfold State.endRunIfOver
      split
      · cases hrun : (u.passTo u.slotSixteenths).bus.run with
        | none =>
          rw [endRun_none hrun]
          exact ⟨hsync, rfl⟩
        | some r =>
          rw [endRun_synchronised (s := u.passTo u.slotSixteenths) hsync hrun]
          exact ⟨hsync, rfl⟩
      · exact ⟨hsync, rfl⟩
    obtain ⟨hstill, hsame⟩ := hline
    exact slotBoundary_sound hended hstill (hsame ▸ htx)
  · exact hfinished

/-! ### Founding -/

theorem found_sound {s : State} (hs : s.Sound) (hstate : s.controller.state = .listen) :
    s.found.Sound := by
  have hm : s.controller.state ≠ .member := by rw [hstate]; decide
  obtain ⟨-, -, -, hunsent, -, hqueue, hserving⟩ := hs.outsider hm
  obtain ⟨horderly, -⟩ := (postLaw_iff s).mp hs.post
  obtain ⟨-, -, hjoin, hjoin8, hwait⟩ := hs.timer
  obtain ⟨-, hatEnd⟩ := hs.leave
  obtain ⟨hle, h8⟩ := hs.failure
  have hfailures : s.controller.failures ≠ 8 := fun h => by
    rw [h8.mp h] at hstate
    cases hstate
  have hconfigured := configured_of_configLaw hs.config (by rw [hstate]; decide)
  obtain ⟨-, h16, hlt⟩ := hconfigured.counts
  have hreceiving : s.transfer.receiving = none := by
    have hlaw := hs.receiving
    unfold State.ReceivingLaw at hlaw
    cases h : s.transfer.receiving with
    | none => rfl
    | some r =>
      rw [h, hstate] at hlaw
      cases hlaw.1
  have htransfer : s.transfer = ⟨[], none, none⟩ := by
    rw [← hqueue, ← hserving, ← hreceiving]
  have hown : stationIn (stationOnly s.stationNumber) s.stationNumber = true := by
    rw [stationIn_only, decide_eq_true rfl, decide_eq_true (Nat.lt_of_lt_of_le hlt h16)]
    rfl
  have hpoised : s.foundedPicture.reevaluateWatches.Poised 0 := by
    rw [reevaluateWatches_eq, foundedPicture_eq]
    exact
      { configured := hconfigured.congr rfl rfl
        failure := ⟨hle, fun h => absurd h hfailures, fun h => by cases h⟩
        view := hown
        count := Nat.le_refl 0
        orderly := horderly
        unsent := fun _ => hunsent
        sync := rfl
        slot := hlt
        active := rfl
        timer := ⟨fun h => (by cases h), fun _ => rfl, fun _ => hjoin (by rw [hstate]; decide), hjoin8,
          hwait⟩
        pendingLeave := fun _ => rfl
        leaveAtTxEnd := Bool.eq_false_iff.mpr fun h => by
          obtain ⟨hjoiner, -⟩ := hatEnd h
          rw [hstate] at hjoiner
          obtain h | h := hjoiner <;> cases h
        join := by
          unfold State.JoinLaw
          dsimp only
          rw [htransfer]
          exact ⟨Nat.zero_le _, List.nodup_nil, fun _ hn => absurd hn List.not_mem_nil, fun _ => rfl⟩
        serving := by
          unfold State.ServingLaw
          dsimp only
          rw [htransfer]
          exact trivial
        receiving := by
          unfold State.ReceivingLaw
          dsimp only
          rw [htransfer]
          exact fun h => by cases h }
  have hmember : s.foundedPicture.reevaluateWatches.controller.state = .member ∧
      s.foundedPicture.reevaluateWatches.bus.slot =
        s.foundedPicture.reevaluateWatches.stationNumber := by
    rw [reevaluateWatches_eq, foundedPicture_eq]
    exact ⟨rfl, rfl⟩
  obtain ⟨hmember, hslot⟩ := hmember
  rw [found_eq]
  exact ownSlotEvaluation_sound hpoised hmember hslot true

/-! ### The commands -/

/-- R24 to R37, R103: a command of the bus side keeps the laws. -/
theorem busSide_sound {i : Instr} (hi : onBusSide i = true) {s : State} (hs : s.Sound) :
    ∃ t, exec i s = .next t ∧ t.Sound := by
  cases i with
  | busActivity gap fall => exact ⟨_, rfl, fallOnRxd_sound hs gap fall⟩
  | runEnd gap =>
    refine ⟨_, rfl, ?_⟩
    split
    · next hactive => exact runOver_sound hs hactive gap
    · exact hs
  | slotEnd =>
    refine ⟨_, rfl, ?_⟩
    split
    · exact endSlot_sound hs
    · exact hs
  | ownTransmissionStart =>
    refine ⟨_, rfl, ?_⟩
    split
    · next htx => exact ownTransmissionStart_sound (passTime_sound hs _) htx
    · exact hs
  | transmissionEnd =>
    refine ⟨_, rfl, ?_⟩
    split
    · next htx => exact (finishTransmission_sound hs htx).1
    · exact hs
  | listenTimerExpiry =>
    refine ⟨_, rfl, ?_⟩
    split
    · next hstate => exact found_sound (passTime_sound hs _) hstate
    · exact hs
  | _ => cases hi

end Sys2Proof.Machine
end

section
/-! PROOF. Every step keeps the laws of the station: the requests and the commands of the host port, the
resets, the idle step; and the law of the host port itself (R163, R174 to R176). -/

namespace Sys2Proof.Machine

-- One theorem after another: each proof checked beside another takes a thread with memory of its own.
set_option Elab.async false

/-! ### Passive stations -/

/-- R26, R112 to R116: what stands still in a passive station. -/
structure State.Resting (s : State) : Prop where
  controller : s.controller = ⟨s.controller.state, s.controller.failures, 0, 0, 0, false, false⟩
  orderly : s.posts.Orderly
  slot : s.bus.slot < 16
  sync : s.bus.sync = false
  tx : s.bus.tx = .idle
  run : s.bus.run = none
  loopback : s.bus.loopback.length ≤ 93
  receive : s.frameCheck.receive = []
  transmit : s.frameCheck.transmit = []
  outsider : s.Outsider
  transfer : s.transfer = ⟨[], none, none⟩

theorem State.Sound.resting {s : State} (hs : s.Sound) (hpassive : s.controller.state.active = false) :
    s.Resting := by
  have hne : ∀ st : StationState, st.active = true → s.controller.state ≠ st := fun st hst heq => by
    rw [heq, hst] at hpassive
    cases hpassive
  obtain ⟨hrun, htx, hreceive, htransmit, hlisten, hwait, hjoin⟩ := hs.quiet hpassive
  obtain ⟨hslot, -, hactive, -⟩ := hs.schedule
  obtain ⟨hloopback, -⟩ := hs.send
  obtain ⟨horderly, -⟩ := (postLaw_iff s).mp hs.post
  obtain ⟨-, hatEnd⟩ := hs.leave
  have houtsider := hs.outsider (hne .member rfl)
  have hsync : s.bus.sync = false := Bool.eq_false_iff.mpr fun h =>
    ne_true_of_eq_false hpassive (hactive h)
  have hleave : s.controller.leaveAtTxEnd = false := Bool.eq_false_iff.mpr fun h => by
    obtain ⟨-, hsending⟩ := hatEnd h
    rw [htx] at hsending
    cases hsending
  have hreceiving : s.transfer.receiving = none := by
    have hlaw := hs.receiving
    unfold State.ReceivingLaw at hlaw
    cases h : s.transfer.receiving with
    | none => rfl
    | some r =>
      rw [h] at hlaw
      exact absurd hlaw.1 (hne .receiving rfl)
  refine ⟨?_, horderly, hslot, hsync, htx, hrun, hloopback, hreceive, htransmit, houtsider, ?_⟩
  · calc s.controller
      _ = ⟨s.controller.state, s.controller.failures, s.controller.listenTimer, s.controller.waitCount,
          s.controller.joinTimer, s.controller.pendingLeave, s.controller.leaveAtTxEnd⟩ := rfl
      _ = _ := by rw [hlisten, hwait, hjoin, houtsider.pending, hleave]
  · rw [← houtsider.queue, ← houtsider.serving, ← hreceiving]

/-- R168, R169: CONFIGURE accepted. -/
theorem configuredWith_stopped {s : State} (hs : s.Sound) {c : Configuration} (hc : c.InRange)
    (hstate : s.controller.state = .unconfigured ∨ s.controller.state = .ready) :
    (s.configuredWith c).Stopped := by
  have hpassive : s.controller.state.active = false ∧ s.controller.state ≠ .halted := by
    obtain h | h := hstate <;> rw [h] <;> decide
  obtain ⟨hpassive, hhalted⟩ := hpassive
  have hrest := hs.resting hpassive
  obtain ⟨hview, hagree, hdissent, hunsent, -⟩ := hrest.outsider
  obtain ⟨hle, h8⟩ := hs.failure
  refine ⟨⟨c, rfl, hc, rfl⟩, .inr (.inl rfl), ⟨hle, fun h => absurd (h8.mp h) hhalted, fun h => ?_⟩, ?_,
    hrest.orderly, hunsent, hrest.slot, hrest.sync, hrest.tx, hrest.run, hrest.loopback, hrest.receive,
    hrest.transmit, hview, hagree, hdissent, hrest.transfer⟩
  · cases h
  · exact congrArg (fun x => { x with state := .ready }) hrest.controller

/-- R102: START accepted. -/
theorem started_stopped {s : State} (hs : s.Sound)
    (hstate : s.controller.state.startable = true) : s.started.Stopped := by
  have hpassive : s.controller.state.active = false ∧ s.controller.state ≠ .unconfigured := by
    revert hstate
    cases s.controller.state <;> decide
  obtain ⟨hpassive, hconfigured⟩ := hpassive
  have hrest := hs.resting hpassive
  obtain ⟨hview, hagree, hdissent, hunsent, hpending, -⟩ := hrest.outsider
  have hatEnd : s.controller.leaveAtTxEnd = false := by rw [hrest.controller]
  unfold State.started
  rw [enterListen_eq]
  refine ⟨(configured_of_configLaw hs.config hconfigured).congr rfl rfl, .inl rfl,
    ⟨Nat.zero_le _, fun h => ?_, fun h => ?_⟩, ?_, hrest.orderly, hunsent, hrest.slot, rfl, rfl, rfl,
    Nat.zero_le _, rfl, rfl, hview, hagree, hdissent, hrest.transfer⟩
  · cases h
  · cases h
  · show Controller.mk .listen 0 0 0 0 s.controller.pendingLeave s.controller.leaveAtTxEnd =
      ⟨.listen, 0, 0, 0, 0, false, false⟩
    rw [hpending, hatEnd]

/-! ### Resets -/

/-- R176: the station without a configuration after a reset, whatever the lines, the events and the queue of
commands. -/
theorem sound_of_reset {t : State} (hcore : t.core = State.reset.core)
    (hloopback : t.bus.loopback = []) (hrun : t.bus.run = none) (hreceive : t.frameCheck.receive = [])
    (hlisten : t.controller.listenTimer = 0) : t.Sound := by
  have hreset : State.reset.Sound := State.Lawful.sound resetIsLawful
  refine hreset.steady hcore (by rw [hloopback]; exact Nat.zero_le _) (fun _ => ?_) (fun _ => hlisten)
    fun _ => ⟨hrun, hreceive⟩
  rw [hlisten]
  exact Nat.zero_le _

theorem hardReset_sound (s : State) : s.hardReset.Sound := sound_of_reset rfl rfl rfl rfl rfl

/-- R174, R175: the RESET request takes effect. -/
theorem requestReset_sound {s : State} (hs : s.Sound) : s.requestReset.Sound := by
  have hlaw := hs.config
  unfold State.requestReset stateAfterReset
  dsimp only
  split
  · next hstate =>
    unfold State.ConfigLaw at hlaw
    split at hlaw
    · next hconfig =>
      obtain ⟨htag, -⟩ := hlaw
      refine sound_of_reset ?_ rfl rfl rfl rfl
      rw [hconfig, htag]
      rfl
    · obtain ⟨-, -, hne⟩ := hlaw
      exact absurd hstate hne
  · next hstate =>
    have hconfigured := configured_of_configLaw hlaw hstate
    refine State.Stopped.sound ⟨hconfigured.congr rfl rfl, .inr (.inl rfl),
      ⟨Nat.zero_le _, fun h => ?_, fun h => ?_⟩, rfl, orderly_empty 0, rfl, Nat.zero_lt_succ _, rfl, rfl, rfl,
      Nat.zero_le _, rfl, rfl, rfl, rfl, rfl, rfl⟩
    · cases h
    · cases h

/-! ### Requests -/

/-- R165: what a claim makes of a lawful station. -/
theorem claimed_sound {s t : State} {code : Byte} (hs : s.Sound) (h : s.Claimed code t) : t.Sound := by
  obtain ⟨hpending, hatEnd⟩ := hs.leave
  obtain ⟨horderly, hunsent, hfarewell⟩ := (postLaw_iff s).mp hs.post
  cases h with
  | same => exact hs
  | marks m => exact hs.beside rfl rfl rfl rfl rfl
  | resetPending => exact hs.beside rfl rfl rfl rfl rfl
  | configured c _ hc hstate => exact (configuredWith_stopped hs hc hstate).sound
  | started hstate => exact (started_stopped hs hstate).sound
  | leaveLater hstate => exact { hs with leave := ⟨fun _ => hstate, hatEnd⟩ }
  | leaveAtTxEnd hstate htx => exact { hs with leave := ⟨hpending, fun _ => ⟨hstate, htx⟩⟩ }
  | leave hstate =>
    have hactive : s.controller.state.active = true ∧ s.controller.state ≠ .member := by
      obtain h | h | h := hstate <;> rw [h] <;> decide
    exact (hs.leaves hactive.1 hactive.2).sound
  | posted kind cell operand hroom =>
    obtain ⟨hfree, -⟩ := tagIsFirstFree s.posts.posts s.posts.nextTag 0 (by omega)
    obtain ⟨hordered, hsame⟩ := horderly.appended (p := ⟨freeTag s.posts.posts 16 s.posts.nextTag,
      kind, cell, operand, .queued⟩) rfl hroom hfree (freeTag s.posts.posts 16 s.posts.nextTag + 1)
    exact { hs with post := (postLaw_iff _).mpr ⟨hordered, fun hm => hsame.trans (hunsent hm),
      fun hf => hsame.trans (hfarewell hf)⟩ }
  | cancelled tag p hfind hqueued =>
    have hfound : s.posts.posts.find? (fun x => decide (x.tag = tag)) = some p := hfind
    have hp := List.mem_of_find?_eq_some hfound
    have htag : p.tag = tag := by simpa using List.find?_some hfound
    obtain ⟨hordered, hsame⟩ := horderly.cancelled hp hqueued
    subst htag
    exact { hs with post := (postLaw_iff _).mpr ⟨hordered, fun hm => hsame.trans (hunsent hm),
      fun hf => hsame.trans (hfarewell hf)⟩ }
  | watched i w hw =>
    rw [fillEntry_eq]
    exact hs.beside rfl rfl rfl rfl rfl
  | cleared i => exact hs.beside rfl rfl rfl rfl rfl
  | clearedAll => exact hs.beside rfl rfl rfl rfl rfl

theorem requested_sound {s t : State} {code : Byte} (hs : s.Sound) (h : s.Requested code t) :
    t.Sound := by
  cases h with
  | same => exact hs
  | phased u p known _ hu =>
    exact (claimed_sound (t := u) hs hu).beside rfl rfl rfl rfl rfl

/-! ### The commands of the host port's lines, and every command -/

theorem hostSide_sound {i : Instr} (hi : onHostSide i = true) {s : State} (hs : s.Sound) :
    ∃ t, exec i s = .next t ∧ t.Sound := by
  cases i with
  | powerOn => exact ⟨_, rfl, hardReset_sound s⟩
  | resetnAssert => exact ⟨_, rfl, sound_of_reset rfl rfl rfl rfl rfl⟩
  | resetnRelease => exact ⟨_, rfl, hs.beside rfl rfl rfl rfl rfl⟩
  | selectStart =>
    refine ⟨_, rfl, ?_⟩
    split
    · exact hs
    · split <;> exact hs.beside rfl rfl rfl rfl rfl
  | selectEnd =>
    have hended : s.endSelect.Sound := hs.beside rfl rfl rfl rfl rfl
    refine ⟨_, rfl, ?_⟩
    split
    · exact hs
    · split
      · exact requestReset_sound hended
      · exact hended
  | latchClear =>
    refine ⟨_, rfl, ?_⟩
    split
    · split
      · exact hs.beside rfl rfl rfl rfl rfl
      · exact hs
    all_goals exact hs
  | eventRemoval =>
    refine ⟨_, rfl, ?_⟩
    split
    · split
      · exact hs.beside rfl rfl rfl rfl rfl
      · exact hs
    all_goals exact hs
  | _ => cases hi

theorem exec_sound {i : Instr} {s t : State} (hs : s.Sound) (hexec : exec i s = .next t) :
    t.Sound := by
  obtain ⟨code, params, hi⟩ | hi | hi := instr_sides i
  · obtain ⟨u, hu, hrequested⟩ := exec_requested hi s
    cases hu.symm.trans hexec
    exact requested_sound hs hrequested
  · obtain ⟨u, hu, hsound⟩ := busSide_sound hi hs
    cases hu.symm.trans hexec
    exact hsound
  · obtain ⟨u, hu, hsound⟩ := hostSide_sound hi hs
    cases hu.symm.trans hexec
    exact hsound

/-! ### The host port -/

/-- R168: a station without a configuration is UNCONFIGURED, and no other is. -/
theorem configLaw_unconfigured {s : State} (h : s.ConfigLaw) :
    s.controller.state = .unconfigured ↔ s.config = none := by
  unfold State.ConfigLaw at h
  cases hconfig : s.config with
  | none =>
    rw [hconfig] at h
    obtain ⟨-, hstate, -⟩ := h
    exact ⟨fun _ => rfl, fun _ => hstate⟩
  | some c =>
    rw [hconfig] at h
    obtain ⟨-, -, hstate⟩ := h
    exact ⟨fun hs => absurd hs hstate, fun hn => by cases hn⟩

/-- R163, R176: a request is shifted with CSn low and RESETn high only. -/
theorem portLaw_selected {s : State} (h : s.PortLaw) (hphase : s.host.phase ≠ .idle) :
    s.host.csn = false ∧ s.resetn = true := by
  obtain ⟨hcsn, hresetn⟩ := h
  exact ⟨Bool.eq_false_iff.mpr fun hc => hphase (hcsn hc).1,
    (Bool.eq_false_or_eq_true s.resetn).resolve_right fun hr => hphase (hresetn hr).2⟩

theorem portLaw_of_selected {t : State} (hcsn : t.host.csn = false) (hresetn : t.resetn = true) :
    t.PortLaw :=
  ⟨fun h => absurd h (ne_true_of_eq_false hcsn), fun h => absurd hresetn (ne_true_of_eq_false h)⟩

theorem claimed_lines {s t : State} {code : Byte} (h : s.Claimed code t) :
    t.host.csn = s.host.csn ∧ t.resetn = s.resetn := by
  cases h with
  | watched i w _ =>
    rw [fillEntry_eq]
    exact ⟨rfl, rfl⟩
  | _ => exact ⟨rfl, rfl⟩

theorem requested_portLaw {s t : State} {code : Byte} (hs : s.PortLaw) (h : s.Requested code t) :
    t.PortLaw := by
  cases h with
  | same => exact hs
  | phased u p known hknown hu =>
    have hphase : s.host.phase ≠ .idle := by
      obtain ⟨h, -⟩ | ⟨received, h⟩ := hknown <;> rw [h] <;> exact nofun
    obtain ⟨hcsn, hresetn⟩ := portLaw_selected hs hphase
    obtain ⟨hsame, hline⟩ := claimed_lines (t := u) hu
    exact portLaw_of_selected (hsame.trans hcsn) (hline.trans hresetn)

theorem busSide_portLaw {s t : State} (hs : s.PortLaw) (hconfig : s.ConfigLaw)
    (hlasting : t.lasting = s.lasting) (ht : t.ConfigLaw) : t.PortLaw := by
  obtain ⟨hcsn, hresetn⟩ := hs
  have hphase : t.host.phase = s.host.phase := congrArg Lasting.phase hlasting
  constructor
  · intro h
    obtain ⟨hidle, hpending⟩ := hcsn ((congrArg Lasting.csn hlasting).symm.trans h)
    exact ⟨hphase.trans hidle, (congrArg Lasting.resetPending hlasting).trans hpending⟩
  · intro h
    obtain ⟨hstate, hidle⟩ := hresetn ((congrArg Lasting.resetn hlasting).symm.trans h)
    refine ⟨(configLaw_unconfigured ht).mpr ?_, hphase.trans hidle⟩
    exact (congrArg Lasting.config hlasting).trans ((configLaw_unconfigured hconfig).mp hstate)

theorem hostSide_portLaw {i : Instr} (hi : onHostSide i = true) {s : State} (hs : s.PortLaw) :
    ∃ t, exec i s = .next t ∧ t.PortLaw := by
  have hport := hs
  obtain ⟨hcsn, hresetn⟩ := hport
  cases i with
  | powerOn => exact ⟨_, rfl, fun _ => ⟨rfl, rfl⟩, fun _ => ⟨rfl, rfl⟩⟩
  | resetnAssert => exact ⟨_, rfl, fun _ => ⟨rfl, rfl⟩, fun _ => ⟨rfl, rfl⟩⟩
  | resetnRelease => exact ⟨_, rfl, hcsn, fun h => by cases h⟩
  | selectStart =>
    refine ⟨_, rfl, ?_⟩
    split
    · exact hs
    · split
      · next hline => exact portLaw_of_selected rfl hline
      · next hline =>
        exact ⟨fun h => (by cases h), fun h => ⟨(hresetn h).1, rfl⟩⟩
  | selectEnd =>
    refine ⟨_, rfl, ?_⟩
    split
    · exact hs
    · split
      · refine ⟨fun _ => ⟨rfl, rfl⟩, fun h => ⟨?_, rfl⟩⟩
        exact if_pos (hresetn h).1
      · exact ⟨fun _ => ⟨rfl, rfl⟩, fun h => ⟨(hresetn h).1, rfl⟩⟩
  | latchClear =>
    refine ⟨_, rfl, ?_⟩
    split
    · next hphase =>
      obtain ⟨hlow, hline⟩ := portLaw_selected hs (by rw [hphase]; exact nofun)
      split
      · exact portLaw_of_selected hlow hline
      · exact hs
    all_goals exact hs
  | eventRemoval =>
    refine ⟨_, rfl, ?_⟩
    split
    · next hphase =>
      obtain ⟨hlow, hline⟩ := portLaw_selected hs (by rw [hphase]; exact nofun)
      split
      · exact portLaw_of_selected hlow hline
      · exact hs
    all_goals exact hs
  | _ => cases hi

theorem exec_portLaw {i : Instr} {s t : State} (hs : s.PortLaw) (hsound : s.Sound)
    (hexec : exec i s = .next t) : t.PortLaw := by
  obtain ⟨code, params, hi⟩ | hi | hi := instr_sides i
  · obtain ⟨u, hu, hrequested⟩ := exec_requested hi s
    cases hu.symm.trans hexec
    exact requested_portLaw hs hrequested
  · obtain ⟨u, hu, hendures⟩ := busSide_endures hi s
    cases hu.symm.trans hexec
    exact busSide_portLaw hs hsound.config hendures.lasting (exec_sound hsound hexec).config
  · obtain ⟨u, hu, hport⟩ := hostSide_portLaw hi hs
    cases hu.symm.trans hexec
    exact hport

/-! ### Steps -/

/-- Every step from a lawful state keeps the laws of the station and of the host port. -/
theorem step_keeps {s t : State} (hs : s.Lawful) (hstep : step s = .next t) : t.Sound ∧ t.PortLaw := by
  cases hpending : s.pending with
  | nil =>
    cases (step_nil hpending).symm.trans hstep
    exact ⟨(passTime_sound hs.sound 1).beside rfl rfl rfl rfl rfl, hs.port⟩
  | cons c rest =>
    have hexec := (step_cons hpending).symm.trans hstep
    have hsound : State.Sound { s with pending := rest } := hs.sound.beside rfl rfl rfl rfl rfl
    exact ⟨exec_sound hsound hexec, exec_portLaw (s := { s with pending := rest }) hs.port hsound hexec⟩

/-- Settles O54: the laws of view, counts and failures among those every step keeps. -/
theorem viewAndCountLawsKept : Obligations.ViewAndCountLawsKept := by
  intro s t hs hstep
  obtain ⟨hsound, -⟩ := step_keeps hs hstep
  exact ⟨hsound.view, hsound.count, hsound.failure⟩

/-- Settles O55: the law of posts among those every step keeps. -/
theorem postLawKept : Obligations.PostLawKept := by
  intro s t hs hstep
  obtain ⟨hsound, -⟩ := step_keeps hs hstep
  exact hsound.post

/-- Settles O56: the laws of the Transfer Unit among those every step keeps. -/
theorem transferLawsKept : Obligations.TransferLawsKept := by
  intro s t hs hstep
  obtain ⟨hsound, -⟩ := step_keeps hs hstep
  exact ⟨hsound.join, hsound.serving, hsound.receiving⟩

/-- Settles O58: the laws of sending and leaving among those every step keeps. -/
theorem sendLawKept : Obligations.SendLawKept := by
  intro s t hs hstep
  obtain ⟨hsound, -⟩ := step_keeps hs hstep
  exact ⟨hsound.send, hsound.leave⟩

/-- Settles O59: the laws of configuration, schedule, quiet, timers and port among those every step keeps. -/
theorem stationLawsKept : Obligations.StationLawsKept := by
  intro s t hs hstep
  obtain ⟨hsound, hport⟩ := step_keeps hs hstep
  exact ⟨hsound.config, hsound.schedule, hsound.quiet, hsound.timer, hport⟩

end Sys2Proof.Machine
end
